-- ==== Sys2Proof/Word.lean ====
section
/-! DEFINITION. Word.lean: the widths of what crosses the command port and of a payload byte. -/

namespace Sys2Proof

/-- A byte of the payload, a pixel, or a stored colour channel (10_state.md R28, R29, R30). -/
abbrev Byte := BitVec 8

/-- An operand field `A0` to `A3` of a command word: the unsigned value of the field, used as is
(30_encoding.md R91, R92). -/
abbrev Operand := BitVec 16

/-- A command word: one length, 72 bits (30_encoding.md R90). -/
abbrev CommandWord := BitVec 72

/-- A response word: 64 bits, completion code above the value (30_encoding.md R96). -/
abbrev ResponseWord := BitVec 64

end Sys2Proof
end

