-- ==== Sys2Proof/Syntax.lean ====
section
/-! DEFINITION. Syntax.lean: the 44 commands (30_encoding.md R93), one constructor per row of spec/opcode_table.json, in
the table's order. An operand is the whole 16-bit field, since values outside an operand's domain can be presented to the
RTB and are rejected by it (R91). -/

namespace Sys2Proof

/-- A command with the operand fields its row of 30_encoding.md R93 names. -/
inductive Instr where
  | sysClrerr
  | sysRdcsr (csr : Operand)
  | sysWrcsr (csr value : Operand)
  | payRd (addr : Operand)
  | payWr (addr byte : Operand)
  | strRd (index : Operand)
  | strWr (index value : Operand)
  | rbufRd (index : Operand)
  | colSetr (slot v8 : Operand)
  | colSetg (slot v8 : Operand)
  | colSetb (slot v8 : Operand)
  | colGetr (slot : Operand)
  | colGetg (slot : Operand)
  | colGetb (slot : Operand)
  | colSetrawr (slot v5 : Operand)
  | colSetrawg (slot v6 : Operand)
  | colSetrawb (slot v5 : Operand)
  | colGetrawr (slot : Operand)
  | colGetrawg (slot : Operand)
  | colGetrawb (slot : Operand)
  | colSetraw (slot word16 : Operand)
  | colGetraw (slot : Operand)
  | colGethex (slot : Operand)
  | palDec
  | palEnc
  | chrDec
  | chrEnc
  | chrGet (tile x y : Operand)
  | chrSet (tile x y value : Operand)
  | chrResolve (tile page : Operand)
  | grpDec
  | grpEnc
  | grpGet (x y : Operand)
  | grpSet (x y value : Operand)
  | scrDec
  | scrEnc
  | scrGet (x y : Operand)
  | scrGetraw (x y : Operand)
  | scrSetraw (x y word16 : Operand)
  | scrSetchr (x y value : Operand)
  | scrSetpal (x y value : Operand)
  | scrSetflip (x y flags : Operand)
  | memDec
  | memEnc
  deriving DecidableEq, Repr

end Sys2Proof
end

