-- ==== Sys2Proof/Decode.lean ====
section
/-! DEFINITION. Decode.lean: the command decoder and, after it, the encoder (30_encoding.md R90 to R97, and
spec/opcode_table.json). The decoder is total: every 72-bit word selects one command or is rejected by name (R97). -/

namespace Sys2Proof

/-- Field `OP`, bits 71:64 (30_encoding.md R91). -/
def opField (w : CommandWord) : BitVec 8 := w.extractLsb' 64 8

/-- Field `A0`, bits 63:48 (30_encoding.md R91). -/
def a0Field (w : CommandWord) : Operand := w.extractLsb' 48 16

/-- Field `A1`, bits 47:32 (30_encoding.md R91). -/
def a1Field (w : CommandWord) : Operand := w.extractLsb' 32 16

/-- Field `A2`, bits 31:16 (30_encoding.md R91). -/
def a2Field (w : CommandWord) : Operand := w.extractLsb' 16 16

/-- Field `A3`, bits 15:0 (30_encoding.md R91). -/
def a3Field (w : CommandWord) : Operand := w.extractLsb' 0 16

/-- One row of the opcode map (30_encoding.md R93): mnemonic, opcode, how many of `A0` to `A3` are used (always the
first ones), and the command the four fields make. -/
structure OpcodeRow where
  mnemonic : String
  opcode : BitVec 8
  operands : Nat
  build : Operand → Operand → Operand → Operand → Instr

/-- 30_encoding.md R93, opcodes 0x01 to 0x03. -/
def sysRows : List OpcodeRow :=
  [⟨"SYS.CLRERR", 0x01, 0, fun _ _ _ _ => .sysClrerr⟩,
   ⟨"SYS.RDCSR", 0x02, 1, fun a _ _ _ => .sysRdcsr a⟩,
   ⟨"SYS.WRCSR", 0x03, 2, fun a b _ _ => .sysWrcsr a b⟩]

/-- 30_encoding.md R93, opcodes 0x10 to 0x14. -/
def portRows : List OpcodeRow :=
  [⟨"PAY.RD", 0x10, 1, fun a _ _ _ => .payRd a⟩,
   ⟨"PAY.WR", 0x11, 2, fun a b _ _ => .payWr a b⟩,
   ⟨"STR.RD", 0x12, 1, fun a _ _ _ => .strRd a⟩,
   ⟨"STR.WR", 0x13, 2, fun a b _ _ => .strWr a b⟩,
   ⟨"RBUF.RD", 0x14, 1, fun a _ _ _ => .rbufRd a⟩]

/-- 30_encoding.md R93, opcodes 0x20 to 0x2E. -/
def colRows : List OpcodeRow :=
  [⟨"COL.SETR", 0x20, 2, fun a b _ _ => .colSetr a b⟩,
   ⟨"COL.SETG", 0x21, 2, fun a b _ _ => .colSetg a b⟩,
   ⟨"COL.SETB", 0x22, 2, fun a b _ _ => .colSetb a b⟩,
   ⟨"COL.GETR", 0x23, 1, fun a _ _ _ => .colGetr a⟩,
   ⟨"COL.GETG", 0x24, 1, fun a _ _ _ => .colGetg a⟩,
   ⟨"COL.GETB", 0x25, 1, fun a _ _ _ => .colGetb a⟩,
   ⟨"COL.SETRAWR", 0x26, 2, fun a b _ _ => .colSetrawr a b⟩,
   ⟨"COL.SETRAWG", 0x27, 2, fun a b _ _ => .colSetrawg a b⟩,
   ⟨"COL.SETRAWB", 0x28, 2, fun a b _ _ => .colSetrawb a b⟩,
   ⟨"COL.GETRAWR", 0x29, 1, fun a _ _ _ => .colGetrawr a⟩,
   ⟨"COL.GETRAWG", 0x2A, 1, fun a _ _ _ => .colGetrawg a⟩,
   ⟨"COL.GETRAWB", 0x2B, 1, fun a _ _ _ => .colGetrawb a⟩,
   ⟨"COL.SETRAW", 0x2C, 2, fun a b _ _ => .colSetraw a b⟩,
   ⟨"COL.GETRAW", 0x2D, 1, fun a _ _ _ => .colGetraw a⟩,
   ⟨"COL.GETHEX", 0x2E, 1, fun a _ _ _ => .colGethex a⟩]

/-- 30_encoding.md R93, opcodes 0x30 to 0x44. -/
def palChrRows : List OpcodeRow :=
  [⟨"PAL.DEC", 0x30, 0, fun _ _ _ _ => .palDec⟩,
   ⟨"PAL.ENC", 0x31, 0, fun _ _ _ _ => .palEnc⟩,
   ⟨"CHR.DEC", 0x40, 0, fun _ _ _ _ => .chrDec⟩,
   ⟨"CHR.ENC", 0x41, 0, fun _ _ _ _ => .chrEnc⟩,
   ⟨"CHR.GET", 0x42, 3, fun a b c _ => .chrGet a b c⟩,
   ⟨"CHR.SET", 0x43, 4, fun a b c d => .chrSet a b c d⟩,
   ⟨"CHR.RESOLVE", 0x44, 2, fun a b _ _ => .chrResolve a b⟩]

/-- 30_encoding.md R93, opcodes 0x50 to 0x53. -/
def grpRows : List OpcodeRow :=
  [⟨"GRP.DEC", 0x50, 0, fun _ _ _ _ => .grpDec⟩,
   ⟨"GRP.ENC", 0x51, 0, fun _ _ _ _ => .grpEnc⟩,
   ⟨"GRP.GET", 0x52, 2, fun a b _ _ => .grpGet a b⟩,
   ⟨"GRP.SET", 0x53, 3, fun a b c _ => .grpSet a b c⟩]

/-- 30_encoding.md R93, opcodes 0x60 to 0x71. -/
def scrMemRows : List OpcodeRow :=
  [⟨"SCR.DEC", 0x60, 0, fun _ _ _ _ => .scrDec⟩,
   ⟨"SCR.ENC", 0x61, 0, fun _ _ _ _ => .scrEnc⟩,
   ⟨"SCR.GET", 0x62, 2, fun a b _ _ => .scrGet a b⟩,
   ⟨"SCR.GETRAW", 0x63, 2, fun a b _ _ => .scrGetraw a b⟩,
   ⟨"SCR.SETRAW", 0x64, 3, fun a b c _ => .scrSetraw a b c⟩,
   ⟨"SCR.SETCHR", 0x65, 3, fun a b c _ => .scrSetchr a b c⟩,
   ⟨"SCR.SETPAL", 0x66, 3, fun a b c _ => .scrSetpal a b c⟩,
   ⟨"SCR.SETFLIP", 0x67, 3, fun a b c _ => .scrSetflip a b c⟩,
   ⟨"MEM.DEC", 0x70, 0, fun _ _ _ _ => .memDec⟩,
   ⟨"MEM.ENC", 0x71, 0, fun _ _ _ _ => .memEnc⟩]

/-- The 44 rows of the opcode map (30_encoding.md R93). -/
def opcodeTable : List OpcodeRow := sysRows ++ portRows ++ colRows ++ palChrRows ++ grpRows ++ scrMemRows

/-- Why a word selects no command (30_encoding.md R94, R95). The RTB answers it with an `IllegalCommand` error and goes
on, so neither stops the machine. -/
inductive DecodeError where
  /-- The opcode is not listed: cause `ILL_OPCODE` (30_encoding.md R95). -/
  | unlistedOpcode (op : BitVec 8)
  /-- A field that the command does not use is not zero: cause `ILL_RESERVED_FIELD` (30_encoding.md R94). -/
  | reservedField (op : BitVec 8)
  deriving DecidableEq, Repr

/-- The fields from number `n` on are zero (30_encoding.md R94). -/
def unusedFieldsZero (n : Nat) (a0 a1 a2 a3 : Operand) : Bool :=
  (decide (0 < n) || a0 == 0) && (decide (1 < n) || a1 == 0) && (decide (2 < n) || a2 == 0) && (decide (3 < n) || a3 == 0)

/-- The row that lists an opcode, if any (30_encoding.md R93). -/
def opcodeRow? (op : BitVec 8) : Option OpcodeRow := opcodeTable.find? (fun r => r.opcode == op)

/-- Decode a word from its fields, in the order of 30_encoding.md R97: opcode listed, then unused fields zero. -/
def decodeFields (op : BitVec 8) (a0 a1 a2 a3 : Operand) : Except DecodeError Instr :=
  match opcodeRow? op with
  | none => .error (.unlistedOpcode op)
  | some row =>
    if unusedFieldsZero row.operands a0 a1 a2 a3 then .ok (row.build a0 a1 a2 a3) else .error (.reservedField op)

/-- The command decoder (30_encoding.md R97). -/
def decode (w : CommandWord) : Except DecodeError Instr :=
  decodeFields (opField w) (a0Field w) (a1Field w) (a2Field w) (a3Field w)

/-- The command word on the port for a table row's bits `w`, `nbits` of them. The table numbers a word as R91 does: one
word of 72 bits, bit 0 least significant, so nothing is laid out anew (DEDUCED, assumption 14). -/
def tableWord (nbits w : Nat) : CommandWord := BitVec.ofNat 72 (w % 2 ^ nbits)

/-- The command that the decoder reads from a table row's bits. -/
def decodeTableWord (nbits w : Nat) : Option Instr :=
  match decode (tableWord nbits w) with
  | .ok i => some i
  | .error _ => none

/-- A command word from its fields, `OP` highest (30_encoding.md R91). -/
def commandWord (op : BitVec 8) (a0 a1 a2 a3 : Operand) : CommandWord := op ++ a0 ++ a1 ++ a2 ++ a3

/-- The command word of a command, its unused fields zero (30_encoding.md R93, R94). -/
def encode : Instr → CommandWord
  | .sysClrerr => commandWord 0x01 0 0 0 0
  | .sysRdcsr n => commandWord 0x02 n 0 0 0
  | .sysWrcsr n v => commandWord 0x03 n v 0 0
  | .payRd a => commandWord 0x10 a 0 0 0
  | .payWr a b => commandWord 0x11 a b 0 0
  | .strRd i => commandWord 0x12 i 0 0 0
  | .strWr i v => commandWord 0x13 i v 0 0
  | .rbufRd i => commandWord 0x14 i 0 0 0
  | .colSetr n v => commandWord 0x20 n v 0 0
  | .colSetg n v => commandWord 0x21 n v 0 0
  | .colSetb n v => commandWord 0x22 n v 0 0
  | .colGetr n => commandWord 0x23 n 0 0 0
  | .colGetg n => commandWord 0x24 n 0 0 0
  | .colGetb n => commandWord 0x25 n 0 0 0
  | .colSetrawr n v => commandWord 0x26 n v 0 0
  | .colSetrawg n v => commandWord 0x27 n v 0 0
  | .colSetrawb n v => commandWord 0x28 n v 0 0
  | .colGetrawr n => commandWord 0x29 n 0 0 0
  | .colGetrawg n => commandWord 0x2A n 0 0 0
  | .colGetrawb n => commandWord 0x2B n 0 0 0
  | .colSetraw n w => commandWord 0x2C n w 0 0
  | .colGetraw n => commandWord 0x2D n 0 0 0
  | .colGethex n => commandWord 0x2E n 0 0 0
  | .palDec => commandWord 0x30 0 0 0 0
  | .palEnc => commandWord 0x31 0 0 0 0
  | .chrDec => commandWord 0x40 0 0 0 0
  | .chrEnc => commandWord 0x41 0 0 0 0
  | .chrGet t x y => commandWord 0x42 t x y 0
  | .chrSet t x y v => commandWord 0x43 t x y v
  | .chrResolve t p => commandWord 0x44 t p 0 0
  | .grpDec => commandWord 0x50 0 0 0 0
  | .grpEnc => commandWord 0x51 0 0 0 0
  | .grpGet x y => commandWord 0x52 x y 0 0
  | .grpSet x y v => commandWord 0x53 x y v 0
  | .scrDec => commandWord 0x60 0 0 0 0
  | .scrEnc => commandWord 0x61 0 0 0 0
  | .scrGet x y => commandWord 0x62 x y 0 0
  | .scrGetraw x y => commandWord 0x63 x y 0 0
  | .scrSetraw x y w => commandWord 0x64 x y w 0
  | .scrSetchr x y v => commandWord 0x65 x y v 0
  | .scrSetpal x y v => commandWord 0x66 x y v 0
  | .scrSetflip x y f => commandWord 0x67 x y f 0
  | .memDec => commandWord 0x70 0 0 0 0
  | .memEnc => commandWord 0x71 0 0 0 0

end Sys2Proof
end

