-- ==== Sys2Proof/Config.lean ====
section
/-! DEFINITION. Config.lean: what the implementation fixes (00_scope.md R6, 10_state.md R37), as plain data, and the
constants without a body that stand for what the spec leaves open. -/

namespace Sys2Proof

/-- The parameters of 00_scope.md R6 that some rule reads. The machine carries one `Config` and no step changes it
(10_state.md R37; assumption 6). A palette decode mask is 4 bits wide and a code value 16 bits wide by type; the other
conditions on a legal configuration are `Config.wf`. -/
structure Config where
  /-- `STR_TABLE` (`ByteToCode`): the 16-bit code of each byte, 256 entries (45_stringslot.md R221). -/
  strTable : Vector (BitVec 16) 256
  /-- `FLIP_H_BIT`: which bit of a tile word is the horizontal flip flag (44_tilemap.md R194). -/
  flipHBit : Nat
  /-- `FLIP_V_BIT`: which bit of a tile word is the vertical flip flag (44_tilemap.md R194). -/
  flipVBit : Nat
  /-- `TILE_PAL_DECODE_MASK`: the mask applied after the shift by 12 on tile decode (44_tilemap.md R194). -/
  palMask : BitVec 4
  deriving DecidableEq, Repr

/-- A table with entry `f b` for each byte `b`. -/
def Config.tableOf (f : Nat → BitVec 16) : Vector (BitVec 16) 256 :=
  ⟨((List.range 256).map f).toArray, by simp⟩

/-- DESIGN CHOICE (safe), assumption 7. The table's 256 entries are in no source; all that is known is that they are
16-bit codes, all different (45_stringslot.md R221). Every injective table is the restriction to 0 ..= 255 of some
permutation of the 16-bit words, so an arbitrary permutation leaves the table exactly as open as the spec does. -/
opaque Config.openCodes : Equiv.Perm (BitVec 16)

/-- DESIGN CHOICE (safe), assumption 10: `CYCLES(op)`, a positive number per opcode that no rule depends on
(70_reset_and_hazards.md R299). -/
opaque Config.cycles : BitVec 8 → ℕ+

/-- The configuration of the machine at `State.reset`: the open table, and the spec's defaults for the other parameters
(00_scope.md R6). PRESUMED (unsafe), assumption 8: flip bits 10 and 11. DESIGN CHOICE (unsafe), assumption 9: mask 0xF. -/
def Config.instantiated : Config where
  strTable := Config.tableOf (fun b => Config.openCodes (BitVec.ofNat 16 b))
  flipHBit := 10
  flipVBit := 11
  palMask := 0xF#4

end Sys2Proof
end

