-- ==== Sys2Proof/Machine/State.lean ====
section
/-! DEFINITION. Machine/State.lean: the architectural state of the RTB (10_state.md R23 to R36) as plain data, its reset
(R40), and the ways a step can stop (none that the spec gives). -/

namespace Sys2Proof.Machine

/-- A colour as the RTB stores it: three quantized 8-bit channels (10_state.md R30). -/
structure Color where
  r : BitVec 8
  g : BitVec 8
  b : BitVec 8
  deriving DecidableEq, Repr, Inhabited

/-- An entry of the tile map: character and palette of 10 bits, two flip flags (10_state.md R32). -/
structure Tile where
  chr : BitVec 10
  pal : BitVec 10
  fh : Bool
  fv : Bool
  deriving DecidableEq, Repr, Inhabited

/-- A buffer: its cells by index, as a list in one canonical form (`Memory.wf` of Machine/Ops.lean: indices strictly
rising, none listed with the value an unlisted cell reads as). A buffer of bytes is a list of `Host.Cell`. Assumption 11. -/
abbrev Memory (α : Type) := List (Nat × α)

/-- What the seven buffers hold (10_state.md R28 to R35). A reset draws it freely (R40), so a reset brings one with it. -/
structure BufferContents where
  pay : Memory (BitVec 8)
  img : Memory (BitVec 8)
  pal : Memory Color
  chr : Memory (BitVec 4)
  tmap : Memory Tile
  str : Memory (BitVec 16)
  rbuf : Memory Color
  deriving DecidableEq, Repr

/-- What the host can do to the RTB (46_port_system.md R247, 70_reset_and_hazards.md R290, R291). The buffer contents that
a reset leaves are unspecified and two resets may leave different ones (10_state.md R40), so they come with the input
(DESIGN CHOICE, safe, assumption 5). -/
inductive HostInput where
  /-- Issue a command word and wait for its response (30_encoding.md R90). -/
  | command (w : CommandWord)
  /-- Assert and release reset between two commands (70_reset_and_hazards.md R290). -/
  | reset (drawn : BufferContents)
  /-- Issue a command word and drive reset while it executes (70_reset_and_hazards.md R291). -/
  | resetDuring (w : CommandWord) (drawn : BufferContents)
  deriving DecidableEq, Repr

/-- The state of one RTB. Every field is the spec's but `cfg` (the configuration, which the spec calls fixed and not state:
assumption 6), `port` (assumption 1) and `responses` (assumption 2). -/
structure State where
  /-- The configuration, changed by no step (10_state.md R37). -/
  cfg : Config
  /-- What the host has yet to do, next first (10_state.md R21). -/
  port : List HostInput
  /-- The response words produced so far, oldest first (70_reset_and_hazards.md R298). -/
  responses : List ResponseWord
  /-- CSR 0 `LASTERR`: completion code of the most recent command (10_state.md R24). -/
  lasterr : BitVec 32
  /-- CSR 1 `STICKY`: one bit per error class seen (10_state.md R25). -/
  sticky : BitVec 32
  /-- CSR 2 `PAYLEN`, the 16 bits it holds (10_state.md R26). -/
  payLen : BitVec 16
  /-- CSR 3 `STRLEN`, the 16 bits it holds (10_state.md R27). -/
  strLen : BitVec 16
  /-- `PAY`, the payload buffer, 49,152 bytes (10_state.md R28). -/
  pay : Memory (BitVec 8)
  /-- `IMG`, the bitmap raster, 49,152 bytes, pixel (x, y) at `y*256 + x` (10_state.md R29). -/
  img : Memory (BitVec 8)
  /-- `PAL`, the palette, 256 colours (10_state.md R30). -/
  pal : Memory Color
  /-- `CHR`, the character bank, 256 tiles of 64 four-bit cells, cell `c` of tile `t` at `t*64 + c` (10_state.md R31). -/
  chr : Memory (BitVec 4)
  /-- `TMAP`, the tile map, 4096 tiles, tile (x, y) at `y*64 + x` (10_state.md R32). -/
  tmap : Memory Tile
  /-- `STR`, the string buffer, 256 cells of 16 bits (10_state.md R34). -/
  str : Memory (BitVec 16)
  /-- `RBUF`, the resolve buffer, 64 colours (10_state.md R35). -/
  rbuf : Memory Color
  deriving DecidableEq, Repr

/-- Nothing the spec describes stops the RTB: every error is recorded and answered, and the next command executes normally
(60_exceptions.md R263, R271; 70_reset_and_hazards.md R297). So there is no fault, and nothing raises one (safe). -/
inductive Fault
  deriving DecidableEq, Repr

/-- Why a step may have no meaning. -/
inductive Refusal where
  /-- The arm of `exec` for the instruction of this mnemonic has no meaning yet. Raised by such an arm only, and none is
  left (safe: the machine stops where the hardware would go on). -/
  | notModelled (mnemonic : String)
  deriving DecidableEq, Repr

/-- The state after reset (10_state.md R40): the four CSRs 0. The contents of the seven buffers are unspecified there;
DESIGN CHOICE (unsafe), assumption 4: no cell is listed, so every cell reads as zero. Nothing waits on the port and nothing
has been answered (assumptions 1, 2). -/
def State.reset : State where
  cfg := Config.instantiated
  port := []
  responses := []
  lasterr := 0
  sticky := 0
  payLen := 0
  strLen := 0
  pay := []
  img := []
  pal := []
  chr := []
  tmap := []
  str := []
  rbuf := []

end Sys2Proof.Machine
end

