-- ==== Sys2Proof/Machine/Flags.lean ====
section
/-! DEFINITION. Machine/Flags.lean: the RTB's only status bits: the completion code and the sticky bits (10_state.md R22,
R24, R25), with the error classes and causes they are made of (60_exceptions.md R260, R261). -/

namespace Sys2Proof.Machine

/-- The error classes (60_exceptions.md R260). The RTB never raises `integrity` and `unsupportedType`. -/
inductive ErrorClass where
  | format
  | range
  | integrity
  | unsupportedType
  | encoding
  | illegalCommand
  deriving DecidableEq, Repr

/-- The number of an error class (60_exceptions.md R260). -/
def ErrorClass.number : ErrorClass → Nat
  | .format => 1
  | .range => 2
  | .integrity => 3
  | .unsupportedType => 4
  | .encoding => 5
  | .illegalCommand => 6

/-- The 31 causes (60_exceptions.md R261), in the table's order. -/
inductive Cause where
  | fmtPaylen
  | rngPayAddr | rngPayData | rngStrIndex | rngRbufIndex
  | rngColIndex | rngColChan8 | rngColRaw5 | rngColRaw6
  | rngChrTile | rngChrX | rngChrY | rngChrValue | rngChrPage | rngChrCell
  | rngGrpX | rngGrpY | rngGrpValue
  | rngScrX | rngScrY | rngScrChar | rngScrPal | rngScrFlip
  | encStrToolong | encStrChar | encStrNocode | encStrTail | encStrLenfield
  | illOpcode | illReservedField | illCsr
  deriving DecidableEq, Repr

/-- The number of a cause (60_exceptions.md R261). -/
def Cause.number : Cause → BitVec 8
  | .fmtPaylen => 0x01
  | .rngPayAddr => 0x10 | .rngPayData => 0x11 | .rngStrIndex => 0x12 | .rngRbufIndex => 0x13
  | .rngColIndex => 0x20 | .rngColChan8 => 0x21 | .rngColRaw5 => 0x22 | .rngColRaw6 => 0x23
  | .rngChrTile => 0x40 | .rngChrX => 0x41 | .rngChrY => 0x42 | .rngChrValue => 0x43
  | .rngChrPage => 0x44 | .rngChrCell => 0x45
  | .rngGrpX => 0x50 | .rngGrpY => 0x51 | .rngGrpValue => 0x52
  | .rngScrX => 0x60 | .rngScrY => 0x61 | .rngScrChar => 0x62 | .rngScrPal => 0x63 | .rngScrFlip => 0x64
  | .encStrToolong => 0x70 | .encStrChar => 0x71 | .encStrNocode => 0x72 | .encStrTail => 0x73
  | .encStrLenfield => 0x74
  | .illOpcode => 0xF0 | .illReservedField => 0xF1 | .illCsr => 0xF2

/-- The class of a cause (60_exceptions.md R261). -/
def Cause.errorClass : Cause → ErrorClass
  | .fmtPaylen => .format
  | .rngPayAddr | .rngPayData | .rngStrIndex | .rngRbufIndex
  | .rngColIndex | .rngColChan8 | .rngColRaw5 | .rngColRaw6
  | .rngChrTile | .rngChrX | .rngChrY | .rngChrValue | .rngChrPage | .rngChrCell
  | .rngGrpX | .rngGrpY | .rngGrpValue
  | .rngScrX | .rngScrY | .rngScrChar | .rngScrPal | .rngScrFlip => .range
  | .encStrToolong | .encStrChar | .encStrNocode | .encStrTail | .encStrLenfield => .encoding
  | .illOpcode | .illReservedField | .illCsr => .illegalCommand

/-- The completion code of a failed command, in the layout of `LASTERR`: info 31:16, cause 15:8, zero 7:4, class 3:0
(10_state.md R24). -/
def failureCode (cause : Cause) (info : BitVec 16) : BitVec 32 :=
  info ++ cause.number ++ 0#4 ++ BitVec.ofNat 4 cause.errorClass.number

/-- The `STICKY` bit of a cause's class (10_state.md R25). -/
def stickyBit (cause : Cause) : BitVec 32 := 1#32 <<< cause.errorClass.number

/-- The response word: completion code in 63:32, value in 31:0 (30_encoding.md R96). -/
def responseWord (code rsp : BitVec 32) : ResponseWord := code ++ rsp

end Sys2Proof.Machine
end

