-- ==== Sys2Proof/Machine/Ops.lean ====
section
/-! DEFINITION. Machine/Ops.lean: the operations every command is built from: reading and writing a buffer cell, filling a
buffer, little-endian payload fields, writing one part of the state, and the end of a command, with or without an error. -/

namespace Sys2Proof.Machine

section Memory

variable {α : Type} [Inhabited α]

/-- What a cell that is not listed reads as: zero in every buffer (a zero byte or cell, the colour (0, 0, 0), the tile with
four zero fields). DESIGN CHOICE (unsafe), assumption 4: 10_state.md R40 gives no reset content. -/
def Memory.unlisted : α := default

/-- The cell at an index. -/
def Memory.read : Memory α → Nat → α
  | [], _ => Memory.unlisted
  | (k, v) :: rest, a => if k = a then v else Memory.read rest a

/-- The buffer without its cell at an index. -/
def Memory.erase (m : Memory α) (a : Nat) : Memory α := m.filter (fun c => c.1 != a)

/-- The buffer with a cell put in at its place among rising indices. -/
def Memory.insert : Memory α → Nat → α → Memory α
  | [], a, v => [(a, v)]
  | (k, w) :: rest, a, v => if a < k then (a, v) :: (k, w) :: rest else (k, w) :: Memory.insert rest a v

/-- Write one cell, keeping the canonical form: a cell that holds what an unlisted cell reads as is not listed. -/
def Memory.write [DecidableEq α] (m : Memory α) (a : Nat) (v : α) : Memory α :=
  if v = Memory.unlisted then Memory.erase m a else Memory.insert (Memory.erase m a) a v

/-- The listed indices. -/
def Memory.keys (m : Memory α) : List Nat := m.map Prod.fst

/-- Give every cell below `n` the value `f` has for it, and keep the cells from `n` on. `candidates` names every index
below `n` at which `f` may differ from what an unlisted cell reads as; only those are computed (assumption 11, and
`Memory.read_fill` of Laws/Memory.lean). -/
def Memory.fill [DecidableEq α] (n : Nat) (candidates : List Nat) (f : Nat → α) (m : Memory α) : Memory α :=
  (candidates.filter (· < n)).foldr (fun k acc => Memory.write acc k (f k)) (m.filter (fun c => n ≤ c.1))

/-- The canonical form of a buffer of `n` cells: indices strictly rising and below `n`, no cell listed with the value an
unlisted cell reads as. -/
def Memory.wf [DecidableEq α] (n : Nat) (m : Memory α) : Bool :=
  decide ((Memory.keys m).Pairwise (· < ·)) && m.all (fun c => decide (c.1 < n) && decide (c.2 ≠ Memory.unlisted))

end Memory

/-- `MemRead(a, n)`: the little-endian value of `n` bytes from byte `a` (00_scope.md R9, 20_memory.md R61). -/
def leRead (m : Memory (BitVec 8)) (a : Nat) : Nat → Nat
  | 0 => 0
  | n + 1 => (Memory.read m a).toNat + 256 * leRead m (a + 1) n

/-- Byte `k` of `v` in little-endian order, which `MemWrite(a, n, v)` puts at byte `a + k` (00_scope.md R9, 20_memory.md
R61). -/
def leByte (v k : Nat) : BitVec 8 := BitVec.ofNat 8 (v / 256 ^ k)

/-- The 16-bit field at byte `a` of the payload (20_memory.md R61, R62). -/
def State.payWord (s : State) (a : Nat) : BitVec 16 := BitVec.ofNat 16 (leRead s.pay a 2)

/-! One update per part of the state (10_state.md R36: no write to one changes another). -/

def State.setPay (s : State) (m : Memory (BitVec 8)) : State := { s with pay := m }
def State.setImg (s : State) (m : Memory (BitVec 8)) : State := { s with img := m }
def State.setPal (s : State) (m : Memory Color) : State := { s with pal := m }
def State.setChr (s : State) (m : Memory (BitVec 4)) : State := { s with chr := m }
def State.setTmap (s : State) (m : Memory Tile) : State := { s with tmap := m }
def State.setStr (s : State) (m : Memory (BitVec 16)) : State := { s with str := m }
def State.setRbuf (s : State) (m : Memory Color) : State := { s with rbuf := m }
def State.setPayLen (s : State) (v : BitVec 16) : State := { s with payLen := v }
def State.setStrLen (s : State) (v : BitVec 16) : State := { s with strLen := v }
def State.setSticky (s : State) (v : BitVec 32) : State := { s with sticky := v }
def State.setPort (s : State) (p : List HostInput) : State := { s with port := p }

/-- The completion update every command ends with: `LASTERR` takes the completion code, and the response word with the
code and the value is produced (60_exceptions.md R270, 30_encoding.md R96; assumption 2). -/
def State.complete (s : State) (code rsp : BitVec 32) : State :=
  { s with lasterr := code, responses := s.responses ++ [responseWord code rsp] }

/-- A command succeeds: `s` is the state with the command's writes done, `rsp` its value, 0 where the rule assigns none
(60_exceptions.md R270, 30_encoding.md R96). -/
def succeed (s : State) (rsp : BitVec 32) : Host.Outcome State Fault Refusal := .next (s.complete 0 rsp)

/-- `raise Class(CAUSE, info)`, the RTB's only exception entry: `s` is the state before the command, none of whose writes
takes effect; `LASTERR` and the class's `STICKY` bit record the error, the response carries the code and the value 0, and
nothing else is saved or changed (60_exceptions.md R262, R263, R270). There is no return from it: the next command executes
normally (R271). -/
def raise (cause : Cause) (info : BitVec 16) (s : State) : Host.Outcome State Fault Refusal :=
  .next ((s.setSticky (s.sticky ||| stickyBit cause)).complete (failureCode cause info) 0)

/-- What a reset leaves (10_state.md R40, 70_reset_and_hazards.md R290): the four CSRs 0, every buffer with the contents
drawn, the configuration unchanged. What the host has yet to do and what was already answered are not the RTB's and stay
(DEDUCED, unsafe, assumption 5). -/
def State.afterReset (s : State) (drawn : BufferContents) : State :=
  { cfg := s.cfg, port := s.port, responses := s.responses
    lasterr := 0, sticky := 0, payLen := 0, strLen := 0
    pay := drawn.pay, img := drawn.img, pal := drawn.pal, chr := drawn.chr, tmap := drawn.tmap, str := drawn.str
    rbuf := drawn.rbuf }

end Sys2Proof.Machine
end

