-- ==== Sys2Proof/Machine/Operands.lean ====
section
/-! DEFINITION. Machine/Operands.lean: how an operand or a loop index names a cell (30_encoding.md R92, 20_memory.md R60,
R66): sizes, the 2-D index formulas, and the index pairs of the two block transforms. -/

namespace Sys2Proof.Machine

/-! Fixed payload sizes `SIZE(K)` (00_scope.md R5, 20_memory.md R66) and numbers of cells (20_memory.md R60). -/

def palSize : Nat := 512
def chrSize : Nat := 8192
def grpSize : Nat := 49152
def scrSize : Nat := 8192
def memSize : Nat := 516
def payCells : Nat := 49152
def imgCells : Nat := 49152
def palCells : Nat := 256
def chrCells : Nat := 16384
def tmapCells : Nat := 4096
def strCells : Nat := 256
def rbufCells : Nat := 64

/-- The cell index of a 2-D accessor: `y*width + x` (46_port_system.md section 1). -/
def cellIndex (width x y : Nat) : Nat := y * width + x

/-- Where cell `c` of character-bank tile `t` is kept: tiles of 64 cells, in order (10_state.md R31; assumption 11). -/
def chrKey (t c : Nat) : Nat := t * 64 + c

/-- `GSRC`: the payload index of a bitmap tuple (43_bitmap.md R170). -/
def grpSrc (l k j i y x : Nat) : Nat := l * 16384 + k * 4096 + j * 512 + i * 64 + y * 8 + x

/-- `GDST`: the raster index of a bitmap tuple (43_bitmap.md R170). -/
def grpDst (l k j i y x : Nat) : Nat := l * 16384 + k * 64 + j * 2048 + i * 8 + y * 256 + x

/-- The raster index of a payload index, `GDST` after the inverse of `GSRC`: the loop variables are read off the payload
index (43_bitmap.md R172, R173). -/
def grpRasterIndex (s : Nat) : Nat :=
  grpDst (s / 16384) (s / 4096 % 4) (s / 512 % 8) (s / 64 % 8) (s / 8 % 8) (s % 8)

/-- The payload index of a raster index, `GSRC` after the inverse of `GDST` (43_bitmap.md R172, R173). -/
def grpPayloadIndex (d : Nat) : Nat :=
  grpSrc (d / 16384) (d / 64 % 4) (d / 2048 % 8) (d / 8 % 8) (d / 256 % 8) (d % 8)

/-- `TSRC`: the payload byte offset of a tile-map tuple (44_tilemap.md R190). -/
def scrSrc (j i y x : Nat) : Nat := j * 4096 + i * 2048 + y * 64 + x * 2

/-- `TDST`: the slot of a tile-map tuple (44_tilemap.md R190). -/
def scrDst (j i y x : Nat) : Nat := j * 2048 + y * 64 + i * 32 + x

/-- The slot whose tile word holds payload byte `a`, `TDST` after the inverse of `TSRC` (44_tilemap.md R192). -/
def scrSlot (a : Nat) : Nat := scrDst (a / 4096) (a / 2048 % 2) (a / 64 % 32) (a / 2 % 32)

/-- The payload byte offset of a slot's tile word, `TSRC` after the inverse of `TDST` (44_tilemap.md R192). -/
def scrOffset (s : Nat) : Nat := scrSrc (s / 2048) (s / 32 % 2) (s / 64 % 32) (s % 32)

/-- The tile `index` and cell of a payload byte's low (`h = 0`) or high (`h = 1`) nibble, as a key: byte `m` of tile `t`
holds cells `2m` and `2m + 1` (42_charbank.md R150). -/
def chrNibbleKey (a h : Nat) : Nat := chrKey (a / 32) (2 * (a % 32) + h)

/-- The payload byte that holds the character-bank cell under a key (42_charbank.md R150). -/
def chrByte (k : Nat) : Nat := 32 * (k / 64) + k % 64 / 2

end Sys2Proof.Machine
end

