-- ==== Sys2Proof/Machine/Quantizer.lean ====
section
/-! DEFINITION. Machine/Quantizer.lean: the colour quantizer, pure functions (40_color.md R110 to R116). -/

namespace Sys2Proof.Machine

/-- A quantization range, closed at both ends, and its code. -/
abbrev QRange := Nat × Nat × Nat

/-- The eight red and blue ranges (40_color.md R110). -/
def q5Ranges : List QRange :=
  [(0, 23, 0), (24, 55, 1), (56, 95, 2), (96, 127, 3), (128, 159, 4), (160, 199, 5), (200, 231, 6), (232, 255, 7)]

/-- The four green ranges (40_color.md R111). -/
def q6Ranges : List QRange := [(0, 43, 0), (44, 127, 1), (128, 211, 2), (212, 255, 3)]

/-- The code of the range that holds `v`. The ranges of R110 and R111 cover 0 ..= 255, so the last case is never met. -/
def rangeCode (ranges : List QRange) (v : Nat) : Nat :=
  match ranges.find? (fun q => decide (q.1 ≤ v) && decide (v ≤ q.2.1)) with
  | some q => q.2.2
  | none => 0

/-- `Q5`, the red and blue quantizer (40_color.md R110). -/
def q5 (v : BitVec 8) : BitVec 8 := (v &&& 0xF8#8) ||| BitVec.ofNat 8 (rangeCode q5Ranges v.toNat)

/-- `Q6`, the green quantizer (40_color.md R111). -/
def q6 (v : BitVec 8) : BitVec 8 := (v &&& 0xFC#8) ||| BitVec.ofNat 8 (rangeCode q6Ranges v.toNat)

/-- The stored value of a raw 5-bit channel (40_color.md R116). -/
def storeRaw5 (v : BitVec 5) : BitVec 8 := q5 (v.setWidth 8 <<< 3)

/-- The stored value of a raw 6-bit channel (40_color.md R116). -/
def storeRaw6 (v : BitVec 6) : BitVec 8 := q6 (v.setWidth 8 <<< 2)

/-- The raw red channel (40_color.md R113). -/
def rawR (c : Color) : BitVec 5 := (c.r >>> 3).setWidth 5

/-- The raw green channel (40_color.md R113). -/
def rawG (c : Color) : BitVec 6 := (c.g >>> 2).setWidth 6

/-- The raw blue channel (40_color.md R113). -/
def rawB (c : Color) : BitVec 5 := (c.b >>> 3).setWidth 5

/-- `Raw(c)`: the packed colour word, by the formula (40_color.md R114, 90_conflicts.md C1). -/
def packRaw (c : Color) : BitVec 16 :=
  (rawR c).setWidth 16 ||| ((rawB c).setWidth 16 <<< 10) ||| (((rawG c).setWidth 16 &&& 0b111110#16) <<< 4) |||
    (((rawG c).setWidth 16 &&& 1#16) <<< 15)

/-- The raw red channel of a colour word (40_color.md R115). -/
def wordRed (w : BitVec 16) : BitVec 5 := w.extractLsb' 0 5

/-- The raw green channel of a colour word: word bits 9:5 above word bit 15 (40_color.md R115, 90_conflicts.md C1). -/
def wordGreen (w : BitVec 16) : BitVec 6 := (((w >>> 4) &&& 0b111110#16) ||| ((w >>> 15) &&& 1#16)).setWidth 6

/-- The raw blue channel of a colour word (40_color.md R115). -/
def wordBlue (w : BitVec 16) : BitVec 5 := w.extractLsb' 10 5

/-- `FromRaw(w)`: the stored colour of a colour word (40_color.md R115). -/
def fromRaw (w : BitVec 16) : Color :=
  { r := storeRaw5 (wordRed w), g := storeRaw6 (wordGreen w), b := storeRaw5 (wordBlue w) }

/-- The three stored channels as one 24-bit value, red highest (40_color.md R132, 42_charbank.md R159). -/
def colorHex (c : Color) : BitVec 32 := (c.r ++ c.g ++ c.b).setWidth 32

end Sys2Proof.Machine
end

