-- ==== Sys2Proof/Machine/Palette.lean ====
section
/-! DEFINITION. Machine/Palette.lean: the palette pack and unpack pipeline (41_palette.md R140 to R142), and the payload
length check and update that all five pipelines share (20_memory.md R66, R67). -/

namespace Sys2Proof.Machine

/-- The payload length check a `K.DEC` makes before it reads anything, then the rest of it (20_memory.md R66). -/
def withPayload (size : Nat) (s : State) (k : Host.Outcome State Fault Refusal) : Host.Outcome State Fault Refusal :=
  if s.payLen.toNat ≠ size then raise .fmtPaylen s.payLen s else k

/-- The end of a `K.ENC`: bytes below `size` of the payload get the values of `byte`, those above stay, and `PAYLEN` takes
`size` (20_memory.md R67). `candidates` names every byte whose value may be other than 0. -/
def storePayload (size : Nat) (candidates : List Nat) (byte : Nat → BitVec 8) (s : State) :
    Host.Outcome State Fault Refusal :=
  succeed ((s.setPay (Memory.fill size candidates byte s.pay)).setPayLen (BitVec.ofNat 16 size)) 0

/-- `PAL.DEC`: slot `n` from the colour word at bytes `2n`, `2n + 1` (41_palette.md R141). -/
def execPalDec (s : State) : Host.Outcome State Fault Refusal :=
  withPayload palSize s <|
    succeed (s.setPal (Memory.fill palCells ((Memory.keys s.pay).map (· / 2))
      (fun n => fromRaw (s.payWord (2 * n))) s.pal)) 0

/-- Byte `a` of the palette payload: half of the colour word of slot `a / 2` (41_palette.md R140). -/
def palPayloadByte (s : State) (a : Nat) : BitVec 8 := leByte (packRaw (Memory.read s.pal (a / 2))).toNat (a % 2)

/-- `PAL.ENC` (41_palette.md R142). -/
def execPalEnc (s : State) : Host.Outcome State Fault Refusal :=
  storePayload palSize ((Memory.keys s.pal).flatMap (fun n => [2 * n, 2 * n + 1])) (palPayloadByte s) s

end Sys2Proof.Machine
end

