-- ==== Sys2Proof/Machine/Bitmap.lean ====
section
/-! DEFINITION. Machine/Bitmap.lean: the bitmap block-reorder transform and its accessors (43_bitmap.md R170 to R177). -/

namespace Sys2Proof.Machine

/-- `GRP.DEC`: the pixel at `GDST` is the payload byte at `GSRC`, for every tuple (43_bitmap.md R174). -/
def execGrpDec (s : State) : Host.Outcome State Fault Refusal :=
  withPayload grpSize s <|
    succeed (s.setImg (Memory.fill imgCells ((Memory.keys s.pay).map grpRasterIndex)
      (fun d => Memory.read s.pay (grpPayloadIndex d)) s.img)) 0

/-- `GRP.ENC`: the payload byte at `GSRC` is the pixel at `GDST`, for every tuple (43_bitmap.md R175). -/
def execGrpEnc (s : State) : Host.Outcome State Fault Refusal :=
  storePayload grpSize ((Memory.keys s.img).map grpPayloadIndex) (fun a => Memory.read s.img (grpRasterIndex a)) s

/-- `GRP.GET x, y` (43_bitmap.md R176). -/
def execGrpGet (x y : Operand) (s : State) : Host.Outcome State Fault Refusal :=
  if x.toNat > 255 then raise .rngGrpX x s
  else if y.toNat > 191 then raise .rngGrpY y s
  else succeed s ((Memory.read s.img (cellIndex 256 x.toNat y.toNat)).setWidth 32)

/-- `GRP.SET x, y, v` (43_bitmap.md R177). -/
def execGrpSet (x y v : Operand) (s : State) : Host.Outcome State Fault Refusal :=
  if x.toNat > 255 then raise .rngGrpX x s
  else if y.toNat > 191 then raise .rngGrpY y s
  else if v.toNat > 255 then raise .rngGrpValue v s
  else succeed (s.setImg (Memory.write s.img (cellIndex 256 x.toNat y.toNat) (v.setWidth 8))) 0

end Sys2Proof.Machine
end

