-- ==== Sys2Proof/Machine/CharBank.lean ====
section
/-! DEFINITION. Machine/CharBank.lean: the character-bank pipeline, its cell accessor and its palette resolve
(42_charbank.md R150 to R158). -/

namespace Sys2Proof.Machine

/-- Nibble `h` of a byte: 0 the low one, 1 the high one (42_charbank.md R150). -/
def nibble (b : BitVec 8) (h : Nat) : BitVec 4 := if h = 0 then b.extractLsb' 0 4 else b.extractLsb' 4 4

/-- The cell under a key as the payload holds it (42_charbank.md R151). -/
def chrCellOfPayload (s : State) (k : Nat) : BitVec 4 := nibble (Memory.read s.pay (chrByte k)) (k % 2)

/-- `CHR.DEC` (42_charbank.md R151). -/
def execChrDec (s : State) : Host.Outcome State Fault Refusal :=
  withPayload chrSize s <|
    succeed (s.setChr (Memory.fill chrCells
      ((Memory.keys s.pay).flatMap (fun a => [chrNibbleKey a 0, chrNibbleKey a 1])) (chrCellOfPayload s) s.chr)) 0

/-- Byte `a` of the character-bank payload: cells `2m` and `2m + 1` of tile `t`, with `a = 32t + m` (42_charbank.md R152). -/
def chrPayloadByte (s : State) (a : Nat) : BitVec 8 :=
  (Memory.read s.chr (chrNibbleKey a 0)).setWidth 8 ||| ((Memory.read s.chr (chrNibbleKey a 1)).setWidth 8 <<< 4)

/-- `CHR.ENC` (42_charbank.md R152). -/
def execChrEnc (s : State) : Host.Outcome State Fault Refusal :=
  storePayload chrSize ((Memory.keys s.chr).map chrByte) (chrPayloadByte s) s

/-- `CHR.GET t, x, y`: the cell index is `y*64 + x`, and one above 63 names no cell (42_charbank.md R153 to R155). -/
def execChrGet (t x y : Operand) (s : State) : Host.Outcome State Fault Refusal :=
  if t.toNat > 255 then raise .rngChrTile t s
  else if x.toNat > 63 then raise .rngChrX x s
  else if y.toNat > 63 then raise .rngChrY y s
  else if cellIndex 64 x.toNat y.toNat > 63 then raise .rngChrCell (BitVec.ofNat 16 (cellIndex 64 x.toNat y.toNat)) s
  else succeed s ((Memory.read s.chr (chrKey t.toNat (cellIndex 64 x.toNat y.toNat))).setWidth 32)

/-- `CHR.SET t, x, y, v`: the value is checked before the cell index (42_charbank.md R153, R154, R156). -/
def execChrSet (t x y v : Operand) (s : State) : Host.Outcome State Fault Refusal :=
  if t.toNat > 255 then raise .rngChrTile t s
  else if x.toNat > 63 then raise .rngChrX x s
  else if y.toNat > 63 then raise .rngChrY y s
  else if v.toNat > 15 then raise .rngChrValue v s
  else if cellIndex 64 x.toNat y.toNat > 63 then raise .rngChrCell (BitVec.ofNat 16 (cellIndex 64 x.toNat y.toNat)) s
  else succeed (s.setChr (Memory.write s.chr (chrKey t.toNat (cellIndex 64 x.toNat y.toNat)) (v.setWidth 4))) 0

/-- The colour that cell `i` of tile `t` selects on palette page `p` (42_charbank.md R158). -/
def resolvedColor (s : State) (t p i : Nat) : Color :=
  Memory.read s.pal ((Memory.read s.chr (chrKey t i)).toNat + p * 16)

/-- `CHR.RESOLVE t, p` (42_charbank.md R158). -/
def execChrResolve (t p : Operand) (s : State) : Host.Outcome State Fault Refusal :=
  if t.toNat > 255 then raise .rngChrTile t s
  else if p.toNat > 15 then raise .rngChrPage p s
  else succeed (s.setRbuf (Memory.fill rbufCells (List.range rbufCells) (resolvedColor s t.toNat p.toNat) s.rbuf)) 0

end Sys2Proof.Machine
end

