-- ==== Sys2Proof/Machine/Color.lean ====
section
/-! DEFINITION. Machine/Color.lean: the COL commands (40_color.md R118 to R132). Each first checks its slot (R133). -/

namespace Sys2Proof.Machine

/-- The slot check, then the command's own part on the palette entry (40_color.md R133). -/
def withSlot (n : Operand) (s : State) (k : Color → Host.Outcome State Fault Refusal) :
    Host.Outcome State Fault Refusal :=
  if n.toNat > 255 then raise .rngColIndex n s else k (Memory.read s.pal n.toNat)

/-- Store a colour in a palette slot, and end the command without a value. -/
def storeColor (n : Operand) (c : Color) (s : State) : Host.Outcome State Fault Refusal :=
  succeed (s.setPal (Memory.write s.pal n.toNat c)) 0

/-- `COL.SETR n, v` (40_color.md R118). -/
def execColSetr (n v : Operand) (s : State) : Host.Outcome State Fault Refusal :=
  withSlot n s fun c =>
    if v.toNat > 255 then raise .rngColChan8 v s else storeColor n { c with r := q5 (v.setWidth 8) } s

/-- `COL.SETG n, v` (40_color.md R119). -/
def execColSetg (n v : Operand) (s : State) : Host.Outcome State Fault Refusal :=
  withSlot n s fun c =>
    if v.toNat > 255 then raise .rngColChan8 v s else storeColor n { c with g := q6 (v.setWidth 8) } s

/-- `COL.SETB n, v` (40_color.md R120). -/
def execColSetb (n v : Operand) (s : State) : Host.Outcome State Fault Refusal :=
  withSlot n s fun c =>
    if v.toNat > 255 then raise .rngColChan8 v s else storeColor n { c with b := q5 (v.setWidth 8) } s

/-- `COL.GETR n` (40_color.md R121). -/
def execColGetr (n : Operand) (s : State) : Host.Outcome State Fault Refusal :=
  withSlot n s fun c => succeed s (c.r.setWidth 32)

/-- `COL.GETG n` (40_color.md R122). -/
def execColGetg (n : Operand) (s : State) : Host.Outcome State Fault Refusal :=
  withSlot n s fun c => succeed s (c.g.setWidth 32)

/-- `COL.GETB n` (40_color.md R123). -/
def execColGetb (n : Operand) (s : State) : Host.Outcome State Fault Refusal :=
  withSlot n s fun c => succeed s (c.b.setWidth 32)

/-- `COL.SETRAWR n, v` (40_color.md R124). -/
def execColSetrawr (n v : Operand) (s : State) : Host.Outcome State Fault Refusal :=
  withSlot n s fun c =>
    if v.toNat > 31 then raise .rngColRaw5 v s else storeColor n { c with r := storeRaw5 (v.setWidth 5) } s

/-- `COL.SETRAWG n, v` (40_color.md R125). -/
def execColSetrawg (n v : Operand) (s : State) : Host.Outcome State Fault Refusal :=
  withSlot n s fun c =>
    if v.toNat > 63 then raise .rngColRaw6 v s else storeColor n { c with g := storeRaw6 (v.setWidth 6) } s

/-- `COL.SETRAWB n, v` (40_color.md R126). -/
def execColSetrawb (n v : Operand) (s : State) : Host.Outcome State Fault Refusal :=
  withSlot n s fun c =>
    if v.toNat > 31 then raise .rngColRaw5 v s else storeColor n { c with b := storeRaw5 (v.setWidth 5) } s

/-- `COL.GETRAWR n` (40_color.md R127). -/
def execColGetrawr (n : Operand) (s : State) : Host.Outcome State Fault Refusal :=
  withSlot n s fun c => succeed s ((rawR c).setWidth 32)

/-- `COL.GETRAWG n` (40_color.md R128). -/
def execColGetrawg (n : Operand) (s : State) : Host.Outcome State Fault Refusal :=
  withSlot n s fun c => succeed s ((rawG c).setWidth 32)

/-- `COL.GETRAWB n` (40_color.md R129). -/
def execColGetrawb (n : Operand) (s : State) : Host.Outcome State Fault Refusal :=
  withSlot n s fun c => succeed s ((rawB c).setWidth 32)

/-- `COL.SETRAW n, w`: all 65,536 words are legal (40_color.md R130). -/
def execColSetraw (n w : Operand) (s : State) : Host.Outcome State Fault Refusal :=
  withSlot n s fun _ => storeColor n (fromRaw w) s

/-- `COL.GETRAW n` (40_color.md R131). -/
def execColGetraw (n : Operand) (s : State) : Host.Outcome State Fault Refusal :=
  withSlot n s fun c => succeed s ((packRaw c).setWidth 32)

/-- `COL.GETHEX n`: the stored channels as a number; rendering it as text is the host's (40_color.md R132). -/
def execColGethex (n : Operand) (s : State) : Host.Outcome State Fault Refusal :=
  withSlot n s fun c => succeed s (colorHex c)

end Sys2Proof.Machine
end

