-- ==== Sys2Proof/Machine/Port.lean ====
section
/-! DEFINITION. Machine/Port.lean: the host port's loads and stores (46_port_system.md R240 to R243, 42_charbank.md R159).
No load sign-extends; every value is zero-extended to the 32-bit response value (46_port_system.md section 1). -/

namespace Sys2Proof.Machine

/-- `PAY.RD a` (46_port_system.md R240). -/
def execPayRd (a : Operand) (s : State) : Host.Outcome State Fault Refusal :=
  if a.toNat > 49151 then raise .rngPayAddr a s
  else succeed s ((Memory.read s.pay a.toNat).setWidth 32)

/-- `PAY.WR a, b` (46_port_system.md R241). -/
def execPayWr (a b : Operand) (s : State) : Host.Outcome State Fault Refusal :=
  if a.toNat > 49151 then raise .rngPayAddr a s
  else if b.toNat > 255 then raise .rngPayData b s
  else succeed (s.setPay (Memory.write s.pay a.toNat (b.setWidth 8))) 0

/-- `STR.RD i` (46_port_system.md R242). -/
def execStrRd (i : Operand) (s : State) : Host.Outcome State Fault Refusal :=
  if i.toNat > 255 then raise .rngStrIndex i s
  else succeed s ((Memory.read s.str i.toNat).setWidth 32)

/-- `STR.WR i, c`: all 65,536 values are legal (46_port_system.md R243). -/
def execStrWr (i c : Operand) (s : State) : Host.Outcome State Fault Refusal :=
  if i.toNat > 255 then raise .rngStrIndex i s
  else succeed (s.setStr (Memory.write s.str i.toNat c)) 0

/-- `RBUF.RD i` (42_charbank.md R159). -/
def execRbufRd (i : Operand) (s : State) : Host.Outcome State Fault Refusal :=
  if i.toNat > 63 then raise .rngRbufIndex i s
  else succeed s (colorHex (Memory.read s.rbuf i.toNat))

end Sys2Proof.Machine
end

