-- ==== Sys2Proof/Machine/StringSlot.lean ====
section
/-! DEFINITION. Machine/StringSlot.lean: the string-slot pipeline and its translation table (45_stringslot.md R220 to
R224). -/

namespace Sys2Proof.Machine

/-- `ByteToCode(b)` (45_stringslot.md R221). -/
def byteToCode (cfg : Config) (b : BitVec 8) : BitVec 16 := cfg.strTable[b.toNat]'b.isLt

/-- `CodeToByte(code)`: the byte whose code it is, `none` outside the table's image (45_stringslot.md R221). In a legal
configuration at most one byte has the code; in one that is not injective, the lowest is taken (assumption 12). -/
def codeToByte (cfg : Config) (code : BitVec 16) : Option (BitVec 8) :=
  (cfg.strTable.toList.findIdx? (· == code)).map (BitVec.ofNat 8)

/-- The length field `L` of the string-slot payload, in bytes of code (45_stringslot.md R220, R222). -/
def memLength (s : State) : Nat := leRead s.pay 512 4

/-- The error, if any, that `MEM.DEC` finds at code slot `i` when the string has `count` code units (45_stringslot.md
R223). -/
def memSlotError (s : State) (count i : Nat) : Option Cause :=
  if i < count then
    if (codeToByte s.cfg (s.payWord (2 * i))).isNone then some .encStrNocode else none
  else if s.payWord (2 * i) ≠ 0 then some .encStrTail
  else none

/-- Cell `i` of the decoded string: the byte of the slot's code inside the length, 0 beyond it (45_stringslot.md R223). -/
def memDecodedCell (s : State) (count i : Nat) : BitVec 16 :=
  if i < count then ((codeToByte s.cfg (s.payWord (2 * i))).getD 0).setWidth 16 else 0

/-- `MEM.DEC`: the length field, then the slots in ascending order, then the writes (45_stringslot.md R222, R223). -/
def execMemDec (s : State) : Host.Outcome State Fault Refusal :=
  withPayload memSize s <|
    if memLength s % 2 = 1 ∨ memLength s > 512 then raise .encStrLenfield (BitVec.ofNat 16 (memLength s)) s
    else
      match (List.range strCells).find? (fun i => (memSlotError s (memLength s / 2) i).isSome) with
      | some i => raise ((memSlotError s (memLength s / 2) i).getD .encStrNocode) (BitVec.ofNat 16 i) s
      | none =>
        succeed ((s.setStr (Memory.fill strCells (List.range strCells) (memDecodedCell s (memLength s / 2))
          s.str)).setStrLen (BitVec.ofNat 16 (memLength s / 2))) 0

/-- The code value of slot `i` of the encoded string: the table's inside the length, 0 beyond it (45_stringslot.md R224). -/
def memCode (s : State) (i : Nat) : BitVec 16 :=
  if i < s.strLen.toNat then byteToCode s.cfg ((Memory.read s.str i).setWidth 8) else 0

/-- Byte `a` of the string-slot payload: half of the code value of slot `a / 2`, or a byte of the length field
(45_stringslot.md R220, R224). -/
def memPayloadByte (s : State) (a : Nat) : BitVec 8 :=
  if a < 512 then leByte (memCode s (a / 2)).toNat (a % 2) else leByte (2 * s.strLen.toNat) (a - 512)

/-- `MEM.ENC`: the length, then the cells inside it in ascending order, then the writes (45_stringslot.md R224). -/
def execMemEnc (s : State) : Host.Outcome State Fault Refusal :=
  if s.strLen.toNat > 256 then raise .encStrToolong s.strLen s
  else
    match (List.range s.strLen.toNat).find? (fun i => decide ((Memory.read s.str i).toNat > 255)) with
    | some i => raise .encStrChar (BitVec.ofNat 16 i) s
    | none => storePayload memSize (List.range memSize) (memPayloadByte s) s

end Sys2Proof.Machine
end

