-- ==== Sys2Proof/Machine/System.lean ====
section
/-! DEFINITION. Machine/System.lean: the SYS commands (46_port_system.md R244 to R246). -/

namespace Sys2Proof.Machine

/-- `SYS.CLRERR` (46_port_system.md R244). -/
def execSysClrerr (s : State) : Host.Outcome State Fault Refusal := succeed (s.setSticky 0) 0

/-- The 32-bit value of a control and status register, by number (10_state.md R23 to R27); `none` for a number without
a register. -/
def readCsr? (n : Nat) (s : State) : Option (BitVec 32) :=
  match n with
  | 0 => some s.lasterr
  | 1 => some s.sticky
  | 2 => some (s.payLen.setWidth 32)
  | 3 => some (s.strLen.setWidth 32)
  | _ => none

/-- `SYS.RDCSR n`: the value is the register's before this command (46_port_system.md R245). -/
def execSysRdcsr (n : Operand) (s : State) : Host.Outcome State Fault Refusal :=
  match readCsr? n.toNat s with
  | some v => succeed s v
  | none => raise .illCsr n s

/-- `SYS.WRCSR n, v`: CSRs 0 and 1 are read-only, 4 and above do not exist (46_port_system.md R246). -/
def execSysWrcsr (n v : Operand) (s : State) : Host.Outcome State Fault Refusal :=
  if n = 2 then succeed (s.setPayLen v) 0
  else if n = 3 then succeed (s.setStrLen v) 0
  else raise .illCsr n s

end Sys2Proof.Machine
end

