-- ==== Sys2Proof/Machine/TileMap.lean ====
section
/-! DEFINITION. Machine/TileMap.lean: the tile word, the tile-map block-reorder transform and its accessors
(44_tilemap.md R190 to R204). -/

namespace Sys2Proof.Machine

/-- A flip flag of a tile word: the masked word compared with the flag's own weight (44_tilemap.md R194). -/
def flipFlag (w : BitVec 16) (bit : Nat) : Bool := (w &&& (1#16 <<< bit)) == 1#16 <<< bit

/-- `TileFromRaw(w)` (44_tilemap.md R194). -/
def tileFromRaw (cfg : Config) (w : BitVec 16) : Tile where
  chr := (w &&& 0x03FF#16).setWidth 10
  pal := ((w >>> 12) &&& cfg.palMask.setWidth 16).setWidth 10
  fh := flipFlag w cfg.flipHBit
  fv := flipFlag w cfg.flipVBit

/-- A flag as a word with at most its lowest bit set. -/
def flagWord (f : Bool) (n : Nat) : BitVec n := (BitVec.ofBool f).setWidth n

/-- `TileToRaw(t)`: palette bits 9:4 are shifted out of the 16-bit word (44_tilemap.md R193). -/
def tileToRaw (cfg : Config) (t : Tile) : BitVec 16 :=
  t.chr.setWidth 16 ||| (flagWord t.fh 16 <<< cfg.flipHBit) ||| (flagWord t.fv 16 <<< cfg.flipVBit) |||
    (t.pal.setWidth 16 <<< 12)

/-- The four fields as `SCR.GET` packs them, which is not the tile word (44_tilemap.md R198). -/
def tilePacked (t : Tile) : BitVec 32 :=
  t.chr.setWidth 32 ||| (t.pal.setWidth 32 <<< 10) ||| (flagWord t.fh 32 <<< 20) ||| (flagWord t.fv 32 <<< 21)

/-- `SCR.DEC`: slot `TDST` from the tile word at byte `TSRC`, for every tuple (44_tilemap.md R196). -/
def execScrDec (s : State) : Host.Outcome State Fault Refusal :=
  withPayload scrSize s <|
    succeed (s.setTmap (Memory.fill tmapCells ((Memory.keys s.pay).map scrSlot)
      (fun d => tileFromRaw s.cfg (s.payWord (scrOffset d))) s.tmap)) 0

/-- Byte `a` of the tile-map payload: half of the tile word of the slot it belongs to (44_tilemap.md R197). -/
def scrPayloadByte (s : State) (a : Nat) : BitVec 8 :=
  leByte (tileToRaw s.cfg (Memory.read s.tmap (scrSlot a))).toNat (a % 2)

/-- `SCR.ENC` (44_tilemap.md R197). -/
def execScrEnc (s : State) : Host.Outcome State Fault Refusal :=
  storePayload scrSize ((Memory.keys s.tmap).flatMap (fun d => [scrOffset d, scrOffset d + 1])) (scrPayloadByte s) s

/-- The coordinate checks of the six accessors, then the accessor's own part on the slot (44_tilemap.md R204). -/
def withTile (x y : Operand) (s : State) (k : Nat → Host.Outcome State Fault Refusal) :
    Host.Outcome State Fault Refusal :=
  if x.toNat > 63 then raise .rngScrX x s
  else if y.toNat > 63 then raise .rngScrY y s
  else k (cellIndex 64 x.toNat y.toNat)

/-- Store a tile in a slot, and end the command without a value. -/
def storeTile (slot : Nat) (t : Tile) (s : State) : Host.Outcome State Fault Refusal :=
  succeed (s.setTmap (Memory.write s.tmap slot t)) 0

/-- `SCR.GET x, y` (44_tilemap.md R198). -/
def execScrGet (x y : Operand) (s : State) : Host.Outcome State Fault Refusal :=
  withTile x y s fun slot => succeed s (tilePacked (Memory.read s.tmap slot))

/-- `SCR.GETRAW x, y` (44_tilemap.md R199). -/
def execScrGetraw (x y : Operand) (s : State) : Host.Outcome State Fault Refusal :=
  withTile x y s fun slot => succeed s ((tileToRaw s.cfg (Memory.read s.tmap slot)).setWidth 32)

/-- `SCR.SETRAW x, y, w`: all 65,536 words are legal (44_tilemap.md R200). -/
def execScrSetraw (x y w : Operand) (s : State) : Host.Outcome State Fault Refusal :=
  withTile x y s fun slot => storeTile slot (tileFromRaw s.cfg w) s

/-- `SCR.SETCHR x, y, v` (44_tilemap.md R201). -/
def execScrSetchr (x y v : Operand) (s : State) : Host.Outcome State Fault Refusal :=
  withTile x y s fun slot =>
    if v.toNat > 1023 then raise .rngScrChar v s
    else storeTile slot { Memory.read s.tmap slot with chr := v.setWidth 10 } s

/-- `SCR.SETPAL x, y, v`: all ten bits are held (44_tilemap.md R202). -/
def execScrSetpal (x y v : Operand) (s : State) : Host.Outcome State Fault Refusal :=
  withTile x y s fun slot =>
    if v.toNat > 1023 then raise .rngScrPal v s
    else storeTile slot { Memory.read s.tmap slot with pal := v.setWidth 10 } s

/-- `SCR.SETFLIP x, y, f`: operand bit 0 is horizontal and bit 1 vertical, whatever the flip bits of the tile word are
(44_tilemap.md R203). -/
def execScrSetflip (x y f : Operand) (s : State) : Host.Outcome State Fault Refusal :=
  withTile x y s fun slot =>
    if f.toNat > 3 then raise .rngScrFlip f s
    else storeTile slot { Memory.read s.tmap slot with fh := f.getLsbD 0, fv := f.getLsbD 1 } s

end Sys2Proof.Machine
end

