-- ==== Sys2Proof/Machine/Dispatch.lean ====
section
/-! DEFINITION. Machine/Dispatch.lean: one arm per command (30_encoding.md R93). -/

namespace Sys2Proof.Machine

/-- Execute one command (00_scope.md R10). -/
def exec (i : Instr) (s : State) : Host.Outcome State Fault Refusal :=
  match i with
  | .sysClrerr => Sys2Proof.Machine.execSysClrerr s
  | .sysRdcsr a => Sys2Proof.Machine.execSysRdcsr a s
  | .sysWrcsr a b => Sys2Proof.Machine.execSysWrcsr a b s
  | .payRd a => Sys2Proof.Machine.execPayRd a s
  | .payWr a b => Sys2Proof.Machine.execPayWr a b s
  | .strRd a => Sys2Proof.Machine.execStrRd a s
  | .strWr a b => Sys2Proof.Machine.execStrWr a b s
  | .rbufRd a => Sys2Proof.Machine.execRbufRd a s
  | .colSetr a b => Sys2Proof.Machine.execColSetr a b s
  | .colSetg a b => Sys2Proof.Machine.execColSetg a b s
  | .colSetb a b => Sys2Proof.Machine.execColSetb a b s
  | .colGetr a => Sys2Proof.Machine.execColGetr a s
  | .colGetg a => Sys2Proof.Machine.execColGetg a s
  | .colGetb a => Sys2Proof.Machine.execColGetb a s
  | .colSetrawr a b => Sys2Proof.Machine.execColSetrawr a b s
  | .colSetrawg a b => Sys2Proof.Machine.execColSetrawg a b s
  | .colSetrawb a b => Sys2Proof.Machine.execColSetrawb a b s
  | .colGetrawr a => Sys2Proof.Machine.execColGetrawr a s
  | .colGetrawg a => Sys2Proof.Machine.execColGetrawg a s
  | .colGetrawb a => Sys2Proof.Machine.execColGetrawb a s
  | .colSetraw a b => Sys2Proof.Machine.execColSetraw a b s
  | .colGetraw a => Sys2Proof.Machine.execColGetraw a s
  | .colGethex a => Sys2Proof.Machine.execColGethex a s
  | .palDec => Sys2Proof.Machine.execPalDec s
  | .palEnc => Sys2Proof.Machine.execPalEnc s
  | .chrDec => Sys2Proof.Machine.execChrDec s
  | .chrEnc => Sys2Proof.Machine.execChrEnc s
  | .chrGet a b c => Sys2Proof.Machine.execChrGet a b c s
  | .chrSet a b c d => Sys2Proof.Machine.execChrSet a b c d s
  | .chrResolve a b => Sys2Proof.Machine.execChrResolve a b s
  | .grpDec => Sys2Proof.Machine.execGrpDec s
  | .grpEnc => Sys2Proof.Machine.execGrpEnc s
  | .grpGet a b => Sys2Proof.Machine.execGrpGet a b s
  | .grpSet a b c => Sys2Proof.Machine.execGrpSet a b c s
  | .scrDec => Sys2Proof.Machine.execScrDec s
  | .scrEnc => Sys2Proof.Machine.execScrEnc s
  | .scrGet a b => Sys2Proof.Machine.execScrGet a b s
  | .scrGetraw a b => Sys2Proof.Machine.execScrGetraw a b s
  | .scrSetraw a b c => Sys2Proof.Machine.execScrSetraw a b c s
  | .scrSetchr a b c => Sys2Proof.Machine.execScrSetchr a b c s
  | .scrSetpal a b c => Sys2Proof.Machine.execScrSetpal a b c s
  | .scrSetflip a b c => Sys2Proof.Machine.execScrSetflip a b c s
  | .memDec => Sys2Proof.Machine.execMemDec s
  | .memEnc => Sys2Proof.Machine.execMemEnc s

end Sys2Proof.Machine
end

