-- ==== Sys2Proof/Machine/Illegal.lean ====
section
/-! DEFINITION. Machine/Illegal.lean: what a word that selects no command does (30_encoding.md R94, R95). -/

namespace Sys2Proof.Machine

/-- The `IllegalCommand` error of a word that the decoder rejects; its info is the opcode (30_encoding.md R94, R95). -/
def raiseIllegal (e : DecodeError) (s : State) : Host.Outcome State Fault Refusal :=
  match e with
  | .unlistedOpcode op => raise .illOpcode (op.setWidth 16) s
  | .reservedField op => raise .illReservedField (op.setWidth 16) s

end Sys2Proof.Machine
end

