-- ==== Sys2Proof/Machine/Step.lean ====
section
/-! DEFINITION. Machine/Step.lean: one step of the RTB: take the host's next input and do it whole (20_memory.md R70, R71).
There is no program counter and no instruction memory (10_state.md R21, 20_memory.md R73); the command word on the port is
what is decoded. -/

namespace Sys2Proof.Machine

/-- One step. With nothing on the port the RTB is idle and nothing changes (60_exceptions.md R276; DEDUCED, safe,
assumption 3). A command is executed from the state in which it has been taken off the port (assumption 1); an illegal
word ends in an `IllegalCommand` error (30_encoding.md R94, R95). A reset, also one during a command, leaves the reset state
and produces no response (70_reset_and_hazards.md R290, R291; assumption 5). -/
def step (s : State) : Host.Outcome State Fault Refusal :=
  match s.port with
  | [] => .next s
  | .command w :: rest =>
    match decode w with
    | .ok i => exec i (s.setPort rest)
    | .error e => raiseIllegal e (s.setPort rest)
  | .reset drawn :: rest => .next ((s.setPort rest).afterReset drawn)
  | .resetDuring _ drawn :: rest => .next ((s.setPort rest).afterReset drawn)

/-- The state in which the next command the RTB takes is the one with these bits: the word is put at the front of the
port, where the host's next command stands (assumptions 1, 14). -/
def State.withFetchWord (s : State) (nbits w : Nat) : State := s.setPort (.command (tableWord nbits w) :: s.port)

end Sys2Proof.Machine
end

