-- ==== Sys2Proof/Machine/Assembler.lean ====
section
/-! DEFINITION. Machine/Assembler.lean: the spec's own notation for commands (30_encoding.md R98) and its six
pseudo-instructions (R99). No step depends on it: the host assembles, the RTB takes command words. -/

namespace Sys2Proof.Machine

/-- The command with a mnemonic and its used operands, in the order `A0` to `A3`, each in 0 ..= 65535; unused operands are
not written and assemble to zero (30_encoding.md R98). -/
def assemble (mnemonic : String) (ops : List Nat) : Option Instr :=
  match opcodeTable.find? (fun r => r.mnemonic == mnemonic) with
  | none => none
  | some r =>
    if ops.length = r.operands ∧ ops.all (· ≤ 65535) = true then
      some (r.build (BitVec.ofNat 16 (ops.getD 0 0)) (BitVec.ofNat 16 (ops.getD 1 0)) (BitVec.ofNat 16 (ops.getD 2 0))
        (BitVec.ofNat 16 (ops.getD 3 0)))
    else none

/-- Commands with one mnemonic at `base`, `base + 1`, ..., one for each value (30_encoding.md R99, `PAY.FILL` and
`STR.PUT`). An index above 65535 is no operand (R98), so there is no expansion (DEDUCED, safe, assumption 16). -/
def assembleRun (mnemonic : String) : Nat → List Nat → Option (List Instr)
  | _, [] => some []
  | base, v :: vs => do
    let i ← assemble mnemonic [base, v]
    let is ← assembleRun mnemonic (base + 1) vs
    pure (i :: is)

/-- The commands that a pseudo-instruction expands to (30_encoding.md R99); `none` for a name or an operand count that
R99 does not list. -/
def expandPseudo (name : String) (ops : List Nat) : Option (List Instr) :=
  match ops with
  | [] => if name = "SYS.RDERR" then (assemble "SYS.RDCSR" [0]).map ([·]) else none
  | [n] =>
    if name = "PAY.LEN" then (assemble "SYS.WRCSR" [2, n]).map ([·])
    else if name = "STR.LEN" then (assemble "SYS.WRCSR" [3, n]).map ([·])
    else none
  | base :: vs =>
    if name = "PAY.FILL" then assembleRun "PAY.WR" base vs
    else if name = "STR.PUT" then assembleRun "STR.WR" base vs
    else if name = "COL.SETRGB" then
      match vs with
      | [r, g, b] => do
        let i ← assemble "COL.SETR" [base, r]
        let j ← assemble "COL.SETG" [base, g]
        let k ← assemble "COL.SETB" [base, b]
        pure [i, j, k]
      | _ => none
    else none

/-- The hexadecimal digits as the spec writes them, each at the index that is its value; the first ten are the decimal
digits (30_encoding.md R98). -/
def hexDigits : List Char := "0123456789ABCDEF".toList

/-- The value of a digit (a letter in either case: DESIGN CHOICE, safe, assumption 15). -/
def digitValue (digit : Char) : Option Nat := hexDigits.findIdx? (· == digit.toUpper)

/-- The number written by digits in a base, most significant first, after `acc`. -/
def digitsValue (base acc : Nat) : List Char → Option Nat
  | [] => some acc
  | c :: cs =>
    match digitValue c with
    | some d => if d < base then digitsValue base (acc * base + d) cs else none
    | none => none

/-- An operand as written: decimal, or hexadecimal after `0x` (30_encoding.md R98). -/
def parseOperand : List Char → Option Nat
  | [] => none
  | '0' :: 'x' :: c :: cs => digitsValue 16 0 (c :: cs)
  | cs => digitsValue 10 0 cs

/-- The text without spaces at either end. -/
def trimSpaces (cs : List Char) : List Char := ((cs.dropWhile (· == ' ')).reverse.dropWhile (· == ' ')).reverse

/-- The parts between commas. -/
def splitCommas : List Char → List (List Char)
  | [] => [[]]
  | c :: cs =>
    match splitCommas cs with
    | [] => [[c]]
    | p :: ps => if c = ',' then [] :: p :: ps else (c :: p) :: ps

/-- The operands after a mnemonic, separated by commas; none at all is allowed (30_encoding.md R98). -/
def parseOperands (cs : List Char) : Option (List Nat) :=
  if trimSpaces cs = [] then some [] else (splitCommas cs).mapM (fun p => parseOperand (trimSpaces p))

/-- The commands of one line: `;` starts a comment, then a mnemonic or a pseudo-instruction's name, then its operands
(30_encoding.md R98, R99). A line with neither has none (DESIGN CHOICE, safe, assumption 15). -/
def assembleLine (line : List Char) : Option (List Instr) :=
  let text := trimSpaces (line.takeWhile (· != ';'))
  let name := String.ofList (text.takeWhile (· != ' '))
  if text = [] then some []
  else
    match parseOperands (text.dropWhile (· != ' ')) with
    | none => none
    | some ops =>
      match assemble name ops with
      | some i => some [i]
      | none => expandPseudo name ops

/-- The command words of a program text, one command to a line (30_encoding.md R98). -/
def assembleProgram (lines : List String) : Option (List CommandWord) := do
  let is ← lines.mapM (fun l => assembleLine l.toList)
  pure (is.flatten.map encode)

end Sys2Proof.Machine
end

