-- ==== Sys2Proof/WellFormed.lean ====
section
/-! DEFINITION. WellFormed.lean: what a legal configuration is (93_implementation_defined.md U2, U3), what a legal command
word is (30_encoding.md R94, R95), and when a command's operands are inside their documented domains (20_memory.md R69).
Every value of `Instr` has an encoding, since its operands are whole 16-bit fields, so no check on `Instr` is needed for
encoding it. -/

namespace Sys2Proof

/-- `ByteToCode` is injective (45_stringslot.md R221): no two of the 256 entries are equal. -/
def Config.tableInjective (c : Config) : Bool := decide c.strTable.toList.Nodup

/-- Each flip bit is 10 or 11 (00_scope.md R6). -/
def Config.flipBitsLegal (c : Config) : Bool :=
  (c.flipHBit == 10 || c.flipHBit == 11) && (c.flipVBit == 10 || c.flipVBit == 11)

/-- The two flip bits are distinct (00_scope.md R6). -/
def Config.flipBitsDistinct (c : Config) : Bool := c.flipHBit != c.flipVBit

/-- A configuration the spec allows; any other is to be refused (93_implementation_defined.md U2, U3; assumption 12). -/
def Config.wf (c : Config) : Bool := c.tableInjective && c.flipBitsLegal && c.flipBitsDistinct

/-- How many of the operand fields `A0` to `A3` the command with this opcode uses, always the first ones (30_encoding.md
R93, columns `A0` to `A3` and "unused"); `none` for an opcode the table does not list. -/
def usedOperands (op : Nat) : Option Nat :=
  if op ∈ [0x01, 0x30, 0x31, 0x40, 0x41, 0x50, 0x51, 0x60, 0x61, 0x70, 0x71] then some 0
  else if op ∈ [0x02, 0x10, 0x12, 0x14, 0x23, 0x24, 0x25, 0x29, 0x2A, 0x2B, 0x2D, 0x2E] then some 1
  else if op ∈ [0x03, 0x11, 0x13, 0x20, 0x21, 0x22, 0x26, 0x27, 0x28, 0x2C, 0x44, 0x52, 0x62, 0x63] then some 2
  else if op ∈ [0x42, 0x53, 0x64, 0x65, 0x66, 0x67] then some 3
  else if op = 0x43 then some 4
  else none

/-- The opcode of the word is one of the 44 (30_encoding.md R95). -/
def CommandWord.opcodeListed (w : CommandWord) : Bool := (usedOperands (w.toNat / 2 ^ 64)).isSome

/-- The operand fields that the opcode does not use are zero (30_encoding.md R94). They are the low bits of the word. -/
def CommandWord.unusedZero (w : CommandWord) : Bool :=
  match usedOperands (w.toNat / 2 ^ 64) with
  | none => true
  | some n => w.toNat % 2 ^ (64 - 16 * n) == 0

/-- A word that selects a command (30_encoding.md R97). -/
def CommandWord.wf (w : CommandWord) : Bool := w.opcodeListed && w.unusedZero

/-- Every operand is inside the domain that the command's rule documents (20_memory.md R69; the rules of files 40 to 46),
so that none of the command's own operand checks fails. -/
def Instr.inDomain : Instr → Bool
  | .sysRdcsr n => decide (n.toNat ≤ 3)
  | .sysWrcsr n _ => n.toNat == 2 || n.toNat == 3
  | .payRd a => decide (a.toNat ≤ 49151)
  | .payWr a b => decide (a.toNat ≤ 49151) && decide (b.toNat ≤ 255)
  | .strRd i | .strWr i _ => decide (i.toNat ≤ 255)
  | .rbufRd i => decide (i.toNat ≤ 63)
  | .colSetr n v | .colSetg n v | .colSetb n v => decide (n.toNat ≤ 255) && decide (v.toNat ≤ 255)
  | .colSetrawr n v | .colSetrawb n v => decide (n.toNat ≤ 255) && decide (v.toNat ≤ 31)
  | .colSetrawg n v => decide (n.toNat ≤ 255) && decide (v.toNat ≤ 63)
  | .colGetr n | .colGetg n | .colGetb n | .colGetrawr n | .colGetrawg n | .colGetrawb n
  | .colSetraw n _ | .colGetraw n | .colGethex n => decide (n.toNat ≤ 255)
  | .chrGet t x y => decide (t.toNat ≤ 255) && decide (x.toNat ≤ 63) && y.toNat == 0
  | .chrSet t x y v => decide (t.toNat ≤ 255) && decide (x.toNat ≤ 63) && y.toNat == 0 && decide (v.toNat ≤ 15)
  | .chrResolve t p => decide (t.toNat ≤ 255) && decide (p.toNat ≤ 15)
  | .grpGet x y => decide (x.toNat ≤ 255) && decide (y.toNat ≤ 191)
  | .grpSet x y v => decide (x.toNat ≤ 255) && decide (y.toNat ≤ 191) && decide (v.toNat ≤ 255)
  | .scrGet x y | .scrGetraw x y | .scrSetraw x y _ => decide (x.toNat ≤ 63) && decide (y.toNat ≤ 63)
  | .scrSetchr x y v | .scrSetpal x y v =>
    decide (x.toNat ≤ 63) && decide (y.toNat ≤ 63) && decide (v.toNat ≤ 1023)
  | .scrSetflip x y f => decide (x.toNat ≤ 63) && decide (y.toNat ≤ 63) && decide (f.toNat ≤ 3)
  | .sysClrerr | .palDec | .palEnc | .chrDec | .chrEnc | .grpDec | .grpEnc | .scrDec | .scrEnc | .memDec
  | .memEnc => true

end Sys2Proof
end

