-- ==== Sys2Proof/Safety.lean ====
section
/-! DEFINITION. Safety.lean: what a good state is and what counts as a safe run, in the terms the statements use. -/

namespace Sys2Proof.Machine

/-- A stored channel that `Q5` can have produced (10_state.md R33 (a)). -/
def InQ5Image (x : BitVec 8) : Prop := ∃ v, q5 v = x

/-- A stored channel that `Q6` can have produced (10_state.md R33 (a)). -/
def InQ6Image (x : BitVec 8) : Prop := ∃ v, q6 v = x

/-- A colour whose stored channels are quantized values (10_state.md R33 (a)). -/
def Color.Quantized (c : Color) : Prop := InQ5Image c.r ∧ InQ6Image c.g ∧ InQ5Image c.b

/-- Buffer contents within their widths and invariants: every buffer in the canonical form with only cells that exist
(20_memory.md R60; assumption 11), the colours of `PAL` and `RBUF` quantized (10_state.md R33 (a), (b)). -/
structure BufferContents.Legal (c : BufferContents) : Prop where
  pay : Memory.wf payCells c.pay = true
  img : Memory.wf imgCells c.img = true
  pal : Memory.wf palCells c.pal = true
  chr : Memory.wf chrCells c.chr = true
  tmap : Memory.wf tmapCells c.tmap = true
  str : Memory.wf strCells c.str = true
  rbuf : Memory.wf rbufCells c.rbuf = true
  palQuantized : ∀ n, (Memory.read c.pal n).Quantized
  rbufQuantized : ∀ i, (Memory.read c.rbuf i).Quantized

/-- An input the spec allows: a reset leaves legal buffer contents (10_state.md R40). -/
def HostInput.Legal : HostInput → Prop
  | .command _ => True
  | .reset drawn => drawn.Legal
  | .resetDuring _ drawn => drawn.Legal

/-- The seven buffers of a state. -/
def State.contents (s : State) : BufferContents :=
  { pay := s.pay, img := s.img, pal := s.pal, chr := s.chr, tmap := s.tmap, str := s.str, rbuf := s.rbuf }

/-- The invariants of 10_state.md R33: (a) and (b) the buffers are legal, (c) the reserved bits of `LASTERR` and `STICKY`
are 0. The widths of (b) and all of (d) hold by type. The last field says the same of what resets to come will leave. -/
structure State.Inv (s : State) : Prop where
  buffers : s.contents.Legal
  lasterrReserved : s.lasterr.extractLsb' 4 4 = 0#4
  stickyReserved : s.sticky &&& 0xFFFFFF81#32 = 0#32
  port : ∀ h ∈ s.port, h.Legal

/-! How a command ends, in the spec's own numbers (60_exceptions.md R270, 30_encoding.md R96). -/

/-- The outcome is success with value `v`: the state is `t`, which holds the command's writes, with `LASTERR` 0 and one more
response, 0 above the value. -/
def SucceedsWith (o : Host.Outcome State Fault Refusal) (t : State) (v : BitVec 32) : Prop :=
  o = .next { t with lasterr := 0, responses := t.responses ++ [0#32 ++ v] }

/-- The completion code of an error: info 31:16, cause 15:8, class 3:0 (10_state.md R24). -/
def errorCode (cls : Nat) (cause : BitVec 8) (info : BitVec 16) : BitVec 32 := info ++ cause ++ BitVec.ofNat 8 cls

/-- The outcome is an error of class `cls`, with this cause number and info: the state is `s` but for `LASTERR`, the
`STICKY` bit of the class, and one more response, the code above the value 0. -/
def FailsWith (o : Host.Outcome State Fault Refusal) (s : State) (cls : Nat) (cause : BitVec 8) (info : BitVec 16) :
    Prop :=
  o = .next { s with
    lasterr := errorCode cls cause info
    sticky := s.sticky ||| (1#32 <<< cls)
    responses := s.responses ++ [errorCode cls cause info ++ 0#32] }

/-- The class number in a completion code (10_state.md R24). -/
def codeClass (code : BitVec 32) : Nat := (code.extractLsb' 0 4).toNat

/-- The command word with this opcode and these operand fields, the unused ones zero, selects the command (30_encoding.md
R91, R93). -/
def SelectedBy (i : Instr) (op : BitVec 8) (a0 a1 a2 a3 : Operand) : Prop :=
  decode (commandWord op a0 a1 a2 a3) = .ok i

/-! What a payload's fields hold (20_memory.md R61, 45_stringslot.md R220). -/

/-- The 16-bit little-endian field at byte `a`: `PAY[a] + 256*PAY[a+1]`. -/
def field16 (m : Memory (BitVec 8)) (a : Nat) : BitVec 16 :=
  BitVec.ofNat 16 ((Memory.read m a).toNat + 256 * (Memory.read m (a + 1)).toNat)

/-- The 32-bit little-endian length field at byte 512. -/
def lengthField (m : Memory (BitVec 8)) : Nat :=
  (Memory.read m 512).toNat + 256 * (Memory.read m 513).toNat + 65536 * (Memory.read m 514).toNat +
    16777216 * (Memory.read m 515).toNat

/-- A code value is in the table's image (45_stringslot.md R221). -/
def InTable (cfg : Config) (code : BitVec 16) : Prop := ∃ b, byteToCode cfg b = code

/-- Code slot `i` is as `MEM.DEC` wants it when the string has `count` code units (45_stringslot.md R223). -/
def SlotGood (s : State) (count i : Nat) : Prop :=
  if i < count then InTable s.cfg (field16 s.pay (2 * i)) else field16 s.pay (2 * i) = 0

/-- An input that is a command the RTB is to answer. -/
def HostInput.isCommand : HostInput → Bool
  | .command _ => true
  | .reset _ => false
  | .resetDuring _ _ => false

end Sys2Proof.Machine
end

