-- ==== Sys2Proof/Certificates/Slice0/Obligations.lean ====
section
/-! DEFINITION. Certificates/Slice0/Obligations.lean: the statements for the provers. A result statement says how the
command ends, with `SucceedsWith` or `FailsWith`, whose state is written as an update of the state before: every part of
the state that the update does not name is unchanged, and of a buffer it names every cell that is not stored to. -/

open Sys2Proof Sys2Proof.Machine

/-! ## The command word -/

/-- 30_encoding.md R93, R94: encoding a command and decoding the word gives the command back, with every operand at every
value its 16-bit field admits. -/
def Obligations.DecodeOfEncodeIsTheCommand : Prop := ∀ i : Instr, decode (encode i) = .ok i

/-- 30_encoding.md R97: a word that selects a command is that command's only word. -/
def Obligations.DecodedCommandEncodesToItsWord : Prop :=
  ∀ (w : CommandWord) (i : Instr), decode w = .ok i → encode i = w

/-- 30_encoding.md R97: the decoder is total, and decides in this order: opcode listed, then unused fields zero. -/
def Obligations.DecoderAcceptsExactlyTheLegalWords : Prop :=
  ∀ w : CommandWord,
    (w.opcodeListed = false → decode w = .error (.unlistedOpcode (w.extractLsb' 64 8))) ∧
    (w.opcodeListed = true → w.unusedZero = false → decode w = .error (.reservedField (w.extractLsb' 64 8))) ∧
    (w.opcodeListed = true → w.unusedZero = true → ∃ i, decode w = .ok i)

/-- 30_encoding.md R91, R98 and 95_test_vectors.md: words the spec writes out decode to the commands it names. -/
def Obligations.SpecWordsDecodeToTheirCommands : Prop :=
  decode 0x43_0000_0005_0000_000F#72 = .ok (.chrSet 0 5 0 15) ∧
  decode 0x65_000A_0028_03FF_0000#72 = .ok (.scrSetchr 10 40 1023) ∧
  decode 0x20_0003_0064_0000_0000#72 = .ok (.colSetr 3 100) ∧
  decode 0x03_0002_C000_0000_0000#72 = .ok (.sysWrcsr 2 49152) ∧
  decode 0x10_5924_0000_0000_0000#72 = .ok (.payRd 22820) ∧
  decode 0x52_0064_0064_0000_0000#72 = .ok (.grpGet 100 100) ∧
  decode 0x30_0000_0000_0000_0000#72 = .ok .palDec ∧
  decode 0x71_0000_0000_0000_0000#72 = .ok .memEnc

/-! ## One step -/

/-- A step takes the command word at the front of the port and executes the command it decodes to (every command is
well-formed: its operands are whole fields). -/
def Obligations.StepRunsTheDecodedCommand : Prop :=
  ∀ (s : State) (w : CommandWord) (rest : List HostInput) (i : Instr),
    s.port = .command w :: rest → decode w = .ok i → step s = exec i { s with port := rest }

/-- 30_encoding.md R94, R95: a word whose opcode is not listed ends with `IllegalCommand(ILL_OPCODE, OP)`, and a listed
opcode with a non-zero unused field with `IllegalCommand(ILL_RESERVED_FIELD, OP)`. -/
def Obligations.IllegalWordsRaiseIllegalCommand : Prop :=
  ∀ (s : State) (w : CommandWord) (rest : List HostInput), s.port = .command w :: rest →
    (w.opcodeListed = false →
      FailsWith (step s) { s with port := rest } 6 0xF0 (BitVec.ofNat 16 (w.toNat / 2 ^ 64))) ∧
    (w.opcodeListed = true → w.unusedZero = false →
      FailsWith (step s) { s with port := rest } 6 0xF1 (BitVec.ofNat 16 (w.toNat / 2 ^ 64)))

/-- 70_reset_and_hazards.md R290, R291: a reset, also one during a command, leaves the four CSRs 0, the buffers with
whatever was drawn and the configuration unchanged, and produces no response. That the inputs still to come and the
responses already produced stay is the model's reading (assumption 5). -/
def Obligations.ResetInputLeavesTheResetState : Prop :=
  ∀ (s : State) (w : CommandWord) (d : BufferContents) (rest : List HostInput),
    s.port = .reset d :: rest ∨ s.port = .resetDuring w d :: rest →
      step s = .next
        { cfg := s.cfg, port := rest, responses := s.responses
          lasterr := 0, sticky := 0, payLen := 0, strLen := 0
          pay := d.pay, img := d.img, pal := d.pal, chr := d.chr, tmap := d.tmap, str := d.str, rbuf := d.rbuf }

/-- 10_state.md R40 and 00_scope.md R6: at reset the four CSRs are 0 and the configuration is a legal one. -/
def Obligations.ResetStateHasZeroCsrsAndLegalConfig : Prop :=
  State.reset.lasterr = 0 ∧ State.reset.sticky = 0 ∧ State.reset.payLen = 0 ∧ State.reset.strLen = 0 ∧
    State.reset.cfg.wf = true

/-- 00_scope.md R12: the RTB never acts without a command; with nothing on the port a step changes nothing. -/
def Obligations.IdleStepChangesNothing : Prop := ∀ s : State, s.port = [] → step s = .next s

/-- 70_reset_and_hazards.md R297, R299: a finite list of inputs always runs to its end, every input is taken, and each
command adds one response after those before it. -/
def Obligations.EveryRunEndsWithOneResponsePerCommand : Prop :=
  ∀ s : State, ∃ t : State, Host.Core.run Sys2Proof.core s.port.length s = .next t ∧ t.port = [] ∧
    ∃ new : List ResponseWord, t.responses = s.responses ++ new ∧
      new.length = (s.port.filter HostInput.isCommand).length

/-- 10_state.md R33: every step keeps the invariants of the buffers, `LASTERR` and `STICKY`. -/
def Obligations.EveryStepKeepsTheInvariants : Prop :=
  ∀ s t : State, s.Inv → step s = .next t → t.Inv

/-- 10_state.md R33: the reset state meets the invariants (its zero buffers are the model's choice, assumption 4). -/
def Obligations.ResetStateMeetsTheInvariants : Prop := State.reset.Inv

/-- 60_exceptions.md R260: classes 3 and 4 are never raised: along every step from a state in which `LASTERR` holds
neither and `STICKY` has neither bit, that stays so. -/
def Obligations.ReservedErrorClassesAreNeverRaised : Prop :=
  ∀ s t : State, codeClass s.lasterr ∈ [0, 1, 2, 5, 6] → s.sticky &&& 0x18#32 = 0 → step s = .next t →
    codeClass t.lasterr ∈ [0, 1, 2, 5, 6] ∧ t.sticky &&& 0x18#32 = 0

/-- 10_state.md R37: no command and no reset changes the configuration. -/
def Obligations.NoStepChangesTheConfiguration : Prop := ∀ s : State, ∃ t : State, step s = .next t ∧ t.cfg = s.cfg

/-! ## Every command -/

/-- 60_exceptions.md R262, R270; 10_state.md R24, R25; 30_encoding.md R96: every command ends in one completion update.
On success `LASTERR` is 0 and `STICKY` changes only by `SYS.CLRERR`; on failure the state is as before but for `LASTERR`,
the `STICKY` bit of the class, and the response. The response carries the new `LASTERR` and, on failure, the value 0. -/
def Obligations.EveryCommandEndsInOneCompletionUpdate : Prop :=
  ∀ (i : Instr) (s : State), ∃ (t : State) (code v : BitVec 32),
    exec i s = .next t ∧ t.lasterr = code ∧ t.responses = s.responses ++ [code ++ v] ∧ t.port = s.port ∧
    (code = 0 → t.sticky = if i = .sysClrerr then 0 else s.sticky) ∧
    (code ≠ 0 → codeClass code ∈ [1, 2, 5, 6] ∧ code.extractLsb' 4 4 = 0#4 ∧ v = 0 ∧
      t = { s with
        lasterr := code, sticky := s.sticky ||| (1#32 <<< codeClass code), responses := s.responses ++ [code ++ 0#32] })

/-- 10_state.md R22, 60_exceptions.md R271: `LASTERR` and `STICKY` influence no command but `SYS.RDCSR` of the two: with
other contents of them, every command leaves the same state but for `STICKY`, and gives the same response. -/
def Obligations.ErrorRegistersInfluenceNoOtherCommand : Prop :=
  ∀ (i : Instr) (s : State) (e k : BitVec 32), i ≠ .sysRdcsr 0 → i ≠ .sysRdcsr 1 →
    ∃ (t : State) (k' : BitVec 32), exec i s = .next t ∧
      exec i { s with lasterr := e, sticky := k } = .next { t with sticky := k' }

/-- 20_memory.md R69 and the operand checks of files 40 to 46: a command ends in a `RangeError` or an `IllegalCommand`
exactly when an operand is outside its domain (`Instr.inDomain`). -/
def Obligations.OperandErrorsAreExactlyTheDomainErrors : Prop :=
  ∀ (i : Instr) (s : State), ∃ t : State, exec i s = .next t ∧
    (i.inDomain = false ↔ codeClass t.lasterr = 2 ∨ codeClass t.lasterr = 6)

/-! ## System commands and the host port -/

/-- 46_port_system.md R244. -/
def Obligations.SysClrerrClearsSticky : Prop :=
  ∀ s : State,
    SelectedBy .sysClrerr 0x01 0 0 0 0 ∧
    SucceedsWith (exec .sysClrerr s) { s with sticky := 0 } 0

/-- 46_port_system.md R245: the value is the register's as it stood before the command, zero-extended; the other numbers
name no register. -/
def Obligations.SysRdcsrReadsTheRegisterBefore : Prop :=
  ∀ (n : Operand) (s : State),
    SelectedBy (.sysRdcsr n) 0x02 n 0 0 0 ∧
    (n = 0 → SucceedsWith (exec (.sysRdcsr n) s) s s.lasterr) ∧
    (n = 1 → SucceedsWith (exec (.sysRdcsr n) s) s s.sticky) ∧
    (n = 2 → SucceedsWith (exec (.sysRdcsr n) s) s (BitVec.ofNat 32 s.payLen.toNat)) ∧
    (n = 3 → SucceedsWith (exec (.sysRdcsr n) s) s (BitVec.ofNat 32 s.strLen.toNat)) ∧
    (3 < n.toNat → FailsWith (exec (.sysRdcsr n) s) s 6 0xF2 n)

/-- 46_port_system.md R246: only CSRs 2 and 3 can be written, with any value. -/
def Obligations.SysWrcsrWritesOnlyTheLengths : Prop :=
  ∀ (n v : Operand) (s : State),
    SelectedBy (.sysWrcsr n v) 0x03 n v 0 0 ∧
    (n = 2 → SucceedsWith (exec (.sysWrcsr n v) s) { s with payLen := v } 0) ∧
    (n = 3 → SucceedsWith (exec (.sysWrcsr n v) s) { s with strLen := v } 0) ∧
    (n ≠ 2 → n ≠ 3 → FailsWith (exec (.sysWrcsr n v) s) s 6 0xF2 n)

/-- 46_port_system.md R240. -/
def Obligations.PayRdReadsOneByte : Prop :=
  ∀ (a : Operand) (s : State),
    SelectedBy (.payRd a) 0x10 a 0 0 0 ∧
    (a.toNat ≤ 49151 →
      SucceedsWith (exec (.payRd a) s) s (BitVec.ofNat 32 (Memory.read s.pay a.toNat).toNat)) ∧
    (49151 < a.toNat → FailsWith (exec (.payRd a) s) s 2 0x10 a)

/-- 46_port_system.md R241: the address is checked first; `PAYLEN` does not change. -/
def Obligations.PayWrWritesOneByte : Prop :=
  ∀ (a b : Operand) (s : State),
    SelectedBy (.payWr a b) 0x11 a b 0 0 ∧
    (a.toNat ≤ 49151 → b.toNat ≤ 255 → ∃ m,
      SucceedsWith (exec (.payWr a b) s) { s with pay := m } 0 ∧
      (Memory.read m a.toNat).toNat = b.toNat ∧ ∀ k, k ≠ a.toNat → Memory.read m k = Memory.read s.pay k) ∧
    (49151 < a.toNat → FailsWith (exec (.payWr a b) s) s 2 0x10 a) ∧
    (a.toNat ≤ 49151 → 255 < b.toNat → FailsWith (exec (.payWr a b) s) s 2 0x11 b)

/-- 46_port_system.md R242, R243: every 16-bit value is stored and read back; `STRLEN` plays no part. -/
def Obligations.StrRdAndStrWrAccessOneCell : Prop :=
  ∀ (i c : Operand) (s : State),
    SelectedBy (.strRd i) 0x12 i 0 0 0 ∧
    SelectedBy (.strWr i c) 0x13 i c 0 0 ∧
    (i.toNat ≤ 255 →
      SucceedsWith (exec (.strRd i) s) s (BitVec.ofNat 32 (Memory.read s.str i.toNat).toNat) ∧
      ∃ m, SucceedsWith (exec (.strWr i c) s) { s with str := m } 0 ∧
        Memory.read m i.toNat = c ∧ ∀ k, k ≠ i.toNat → Memory.read m k = Memory.read s.str k) ∧
    (255 < i.toNat →
      FailsWith (exec (.strRd i) s) s 2 0x12 i ∧ FailsWith (exec (.strWr i c) s) s 2 0x12 i)

/-- 42_charbank.md R159: `(r << 16) | (g << 8) | b` of the entry, as a sum of disjoint bits. -/
def Obligations.RbufRdReadsOneColour : Prop :=
  ∀ (i : Operand) (s : State),
    SelectedBy (.rbufRd i) 0x14 i 0 0 0 ∧
    (i.toNat ≤ 63 →
      SucceedsWith (exec (.rbufRd i) s) s (BitVec.ofNat 32 ((Memory.read s.rbuf i.toNat).r.toNat * 65536 +
        (Memory.read s.rbuf i.toNat).g.toNat * 256 + (Memory.read s.rbuf i.toNat).b.toNat))) ∧
    (63 < i.toNat → FailsWith (exec (.rbufRd i) s) s 2 0x13 i)

/-! ## Colours -/

/-- 40_color.md R110, R111: the quantizer by its ranges. -/
def Obligations.QuantizerFollowsItsRanges : Prop :=
  ∀ v : BitVec 8,
    q5 v = (v &&& 0xF8#8) ||| (if v.toNat ≤ 23 then 0#8 else if v.toNat ≤ 55 then 1#8 else if v.toNat ≤ 95 then 2#8
      else if v.toNat ≤ 127 then 3#8 else if v.toNat ≤ 159 then 4#8 else if v.toNat ≤ 199 then 5#8
      else if v.toNat ≤ 231 then 6#8 else 7#8) ∧
    q6 v = (v &&& 0xFC#8) ||| (if v.toNat ≤ 43 then 0#8 else if v.toNat ≤ 127 then 1#8
      else if v.toNat ≤ 211 then 2#8 else 3#8)

/-- 40_color.md R114, R115: the bit map of the colour word, and its unpacking into stored channels. -/
def Obligations.ColourWordHasTheFormulasBitMap : Prop :=
  (∀ c : Color,
    (packRaw c).toNat % 32 = c.r.toNat / 8 ∧
    (packRaw c).toNat / 1024 % 32 = c.b.toNat / 8 ∧
    (packRaw c).toNat / 32 % 32 = c.g.toNat / 8 ∧
    (packRaw c).toNat / 32768 = c.g.toNat / 4 % 2) ∧
  (∀ w : BitVec 16,
    (fromRaw w).r = q5 (BitVec.ofNat 8 (w.toNat % 32 * 8)) ∧
    (fromRaw w).g = q6 (BitVec.ofNat 8 ((w.toNat / 32 % 32 * 2 + w.toNat / 32768) * 4)) ∧
    (fromRaw w).b = q5 (BitVec.ofNat 8 (w.toNat / 1024 % 32 * 8)))

/-- 40_color.md R117: packing and unpacking undo each other, on every word (a) and on every quantized colour (b), and the
packed word depends on the raw channels only (c). -/
def Obligations.ColourPackingRoundTrips : Prop :=
  (∀ w : BitVec 16, packRaw (fromRaw w) = w) ∧ (∀ c : Color, c.Quantized → fromRaw (packRaw c) = c) ∧
  (∀ c d : Color, rawR c = rawR d → rawG c = rawG d → rawB c = rawB d → packRaw c = packRaw d)

/-- 40_color.md R118, R119, R120: the value is quantized, the other two channels and every other slot stay. -/
def Obligations.ColSetChannelStoresTheQuantizedValue : Prop :=
  ∀ (n v : Operand) (s : State),
    SelectedBy (.colSetr n v) 0x20 n v 0 0 ∧
    SelectedBy (.colSetg n v) 0x21 n v 0 0 ∧
    SelectedBy (.colSetb n v) 0x22 n v 0 0 ∧
    (n.toNat ≤ 255 → v.toNat ≤ 255 →
      (∃ m, SucceedsWith (exec (.colSetr n v) s) { s with pal := m } 0 ∧
        Memory.read m n.toNat = { Memory.read s.pal n.toNat with r := q5 (BitVec.ofNat 8 v.toNat) } ∧
        ∀ k, k ≠ n.toNat → Memory.read m k = Memory.read s.pal k) ∧
      (∃ m, SucceedsWith (exec (.colSetg n v) s) { s with pal := m } 0 ∧
        Memory.read m n.toNat = { Memory.read s.pal n.toNat with g := q6 (BitVec.ofNat 8 v.toNat) } ∧
        ∀ k, k ≠ n.toNat → Memory.read m k = Memory.read s.pal k) ∧
      (∃ m, SucceedsWith (exec (.colSetb n v) s) { s with pal := m } 0 ∧
        Memory.read m n.toNat = { Memory.read s.pal n.toNat with b := q5 (BitVec.ofNat 8 v.toNat) } ∧
        ∀ k, k ≠ n.toNat → Memory.read m k = Memory.read s.pal k)) ∧
    (∀ i ∈ [Instr.colSetr n v, .colSetg n v, .colSetb n v],
      (255 < n.toNat → FailsWith (exec i s) s 2 0x20 n) ∧
      (n.toNat ≤ 255 → 255 < v.toNat → FailsWith (exec i s) s 2 0x21 v))

/-- 40_color.md R121, R122, R123: the stored channels are read. -/
def Obligations.ColGetChannelReadsTheStoredValue : Prop :=
  ∀ (n : Operand) (s : State),
    SelectedBy (.colGetr n) 0x23 n 0 0 0 ∧
    SelectedBy (.colGetg n) 0x24 n 0 0 0 ∧
    SelectedBy (.colGetb n) 0x25 n 0 0 0 ∧
    (n.toNat ≤ 255 →
      SucceedsWith (exec (.colGetr n) s) s (BitVec.ofNat 32 (Memory.read s.pal n.toNat).r.toNat) ∧
      SucceedsWith (exec (.colGetg n) s) s (BitVec.ofNat 32 (Memory.read s.pal n.toNat).g.toNat) ∧
      SucceedsWith (exec (.colGetb n) s) s (BitVec.ofNat 32 (Memory.read s.pal n.toNat).b.toNat)) ∧
    (∀ i ∈ [Instr.colGetr n, .colGetg n, .colGetb n], 255 < n.toNat → FailsWith (exec i s) s 2 0x20 n)

/-- 40_color.md R124, R125, R126: a raw value is shifted into the channel's range and quantized. -/
def Obligations.ColSetRawChannelStoresTheQuantizedValue : Prop :=
  ∀ (n v : Operand) (s : State),
    SelectedBy (.colSetrawr n v) 0x26 n v 0 0 ∧
    SelectedBy (.colSetrawg n v) 0x27 n v 0 0 ∧
    SelectedBy (.colSetrawb n v) 0x28 n v 0 0 ∧
    (n.toNat ≤ 255 →
      (v.toNat ≤ 31 →
        (∃ m, SucceedsWith (exec (.colSetrawr n v) s) { s with pal := m } 0 ∧
          Memory.read m n.toNat = { Memory.read s.pal n.toNat with r := q5 (BitVec.ofNat 8 (v.toNat * 8)) } ∧
          ∀ k, k ≠ n.toNat → Memory.read m k = Memory.read s.pal k) ∧
        (∃ m, SucceedsWith (exec (.colSetrawb n v) s) { s with pal := m } 0 ∧
          Memory.read m n.toNat = { Memory.read s.pal n.toNat with b := q5 (BitVec.ofNat 8 (v.toNat * 8)) } ∧
          ∀ k, k ≠ n.toNat → Memory.read m k = Memory.read s.pal k)) ∧
      (v.toNat ≤ 63 →
        ∃ m, SucceedsWith (exec (.colSetrawg n v) s) { s with pal := m } 0 ∧
          Memory.read m n.toNat = { Memory.read s.pal n.toNat with g := q6 (BitVec.ofNat 8 (v.toNat * 4)) } ∧
          ∀ k, k ≠ n.toNat → Memory.read m k = Memory.read s.pal k) ∧
      (31 < v.toNat → FailsWith (exec (.colSetrawr n v) s) s 2 0x22 v ∧
        FailsWith (exec (.colSetrawb n v) s) s 2 0x22 v) ∧
      (63 < v.toNat → FailsWith (exec (.colSetrawg n v) s) s 2 0x23 v)) ∧
    (∀ i ∈ [Instr.colSetrawr n v, .colSetrawg n v, .colSetrawb n v], 255 < n.toNat → FailsWith (exec i s) s 2 0x20 n)

/-- 40_color.md R127, R128, R129: the raw channels are read. -/
def Obligations.ColGetRawChannelReadsTheRawValue : Prop :=
  ∀ (n : Operand) (s : State),
    SelectedBy (.colGetrawr n) 0x29 n 0 0 0 ∧
    SelectedBy (.colGetrawg n) 0x2A n 0 0 0 ∧
    SelectedBy (.colGetrawb n) 0x2B n 0 0 0 ∧
    (n.toNat ≤ 255 →
      SucceedsWith (exec (.colGetrawr n) s) s (BitVec.ofNat 32 ((Memory.read s.pal n.toNat).r.toNat / 8)) ∧
      SucceedsWith (exec (.colGetrawg n) s) s (BitVec.ofNat 32 ((Memory.read s.pal n.toNat).g.toNat / 4)) ∧
      SucceedsWith (exec (.colGetrawb n) s) s (BitVec.ofNat 32 ((Memory.read s.pal n.toNat).b.toNat / 8))) ∧
    (∀ i ∈ [Instr.colGetrawr n, .colGetrawg n, .colGetrawb n], 255 < n.toNat → FailsWith (exec i s) s 2 0x20 n)

/-- 40_color.md R130, R131: `COL.SETRAW` stores the unpacked colour of any word, and `COL.GETRAW` then returns the word;
both check the slot. -/
def Obligations.ColSetrawThenGetrawReturnsTheWord : Prop :=
  ∀ (n w : Operand) (s : State),
    SelectedBy (.colSetraw n w) 0x2C n w 0 0 ∧
    (n.toNat ≤ 255 → ∃ (m : Memory Color) (t : State),
      SucceedsWith (exec (.colSetraw n w) s) { s with pal := m } 0 ∧ exec (.colSetraw n w) s = .next t ∧
      Memory.read m n.toNat = fromRaw w ∧ (∀ k, k ≠ n.toNat → Memory.read m k = Memory.read s.pal k) ∧
      SucceedsWith (exec (.colGetraw n) t) t (BitVec.ofNat 32 w.toNat)) ∧
    (255 < n.toNat → FailsWith (exec (.colSetraw n w) s) s 2 0x20 n)

/-- 40_color.md R131, R132: the packed word and the three stored channels are read. -/
def Obligations.ColGetrawAndGethexReadTheColour : Prop :=
  ∀ (n : Operand) (s : State),
    SelectedBy (.colGetraw n) 0x2D n 0 0 0 ∧
    SelectedBy (.colGethex n) 0x2E n 0 0 0 ∧
    (n.toNat ≤ 255 →
      SucceedsWith (exec (.colGetraw n) s) s (BitVec.ofNat 32 (packRaw (Memory.read s.pal n.toNat)).toNat) ∧
      SucceedsWith (exec (.colGethex n) s) s (BitVec.ofNat 32 ((Memory.read s.pal n.toNat).r.toNat * 65536 +
        (Memory.read s.pal n.toNat).g.toNat * 256 + (Memory.read s.pal n.toNat).b.toNat))) ∧
    (255 < n.toNat →
      FailsWith (exec (.colGetraw n) s) s 2 0x20 n ∧ FailsWith (exec (.colGethex n) s) s 2 0x20 n)

/-! ## Palette payloads -/

/-- 41_palette.md R141. -/
def Obligations.PalDecUnpacksEverySlot : Prop :=
  ∀ s : State,
    SelectedBy .palDec 0x30 0 0 0 0 ∧
    (s.payLen.toNat = 512 → ∃ m, SucceedsWith (exec .palDec s) { s with pal := m } 0 ∧
      ∀ n < 256, Memory.read m n = fromRaw (field16 s.pay (2 * n))) ∧
    (s.payLen.toNat ≠ 512 → FailsWith (exec .palDec s) s 1 0x01 s.payLen)

/-- 41_palette.md R142. -/
def Obligations.PalEncPacksEverySlot : Prop :=
  ∀ s : State,
    SelectedBy .palEnc 0x31 0 0 0 0 ∧
    ∃ m, SucceedsWith (exec .palEnc s) { s with pay := m, payLen := 512 } 0 ∧
    (∀ n < 256, Memory.read m (2 * n) = (packRaw (Memory.read s.pal n)).extractLsb' 0 8 ∧
      Memory.read m (2 * n + 1) = (packRaw (Memory.read s.pal n)).extractLsb' 8 8) ∧
    ∀ a, 512 ≤ a → Memory.read m a = Memory.read s.pay a

/-- 41_palette.md R143: decoding then encoding leaves every byte of `PAY` as it was, for every content; encoding then
decoding leaves every slot as it was, for quantized colours (10_state.md R33 (a)). -/
def Obligations.PaletteRoundTrips : Prop :=
  (∀ s : State, s.payLen.toNat = 512 → ∃ t u : State, exec .palDec s = .next t ∧ exec .palEnc t = .next u ∧
    u.lasterr = 0 ∧ ∀ a, Memory.read u.pay a = Memory.read s.pay a) ∧
  (∀ s : State, (∀ n < 256, (Memory.read s.pal n).Quantized) →
    ∃ t u : State, exec .palEnc s = .next t ∧ exec .palDec t = .next u ∧
      u.lasterr = 0 ∧ ∀ n < 256, Memory.read u.pal n = Memory.read s.pal n)

/-! ## The character bank -/

/-- 42_charbank.md R151: cell `c` of tile `t` is kept under key `t*64 + c`. -/
def Obligations.ChrDecUnpacksEveryCell : Prop :=
  ∀ s : State,
    SelectedBy .chrDec 0x40 0 0 0 0 ∧
    (s.payLen.toNat = 8192 → ∃ m, SucceedsWith (exec .chrDec s) { s with chr := m } 0 ∧
      ∀ t < 256, ∀ k < 32,
        (Memory.read m (t * 64 + 2 * k)).toNat = (Memory.read s.pay (32 * t + k)).toNat % 16 ∧
        (Memory.read m (t * 64 + (2 * k + 1))).toNat = (Memory.read s.pay (32 * t + k)).toNat / 16) ∧
    (s.payLen.toNat ≠ 8192 → FailsWith (exec .chrDec s) s 1 0x01 s.payLen)

/-- 42_charbank.md R152. -/
def Obligations.ChrEncPacksEveryCell : Prop :=
  ∀ s : State,
    SelectedBy .chrEnc 0x41 0 0 0 0 ∧
    ∃ m, SucceedsWith (exec .chrEnc s) { s with pay := m, payLen := 8192 } 0 ∧
    (∀ t < 256, ∀ k < 32, (Memory.read m (32 * t + k)).toNat =
      (Memory.read s.chr (t * 64 + 2 * k)).toNat + 16 * (Memory.read s.chr (t * 64 + (2 * k + 1))).toNat) ∧
    ∀ a, 8192 ≤ a → Memory.read m a = Memory.read s.pay a

/-- 42_charbank.md R153, R154, R155: the checks in order, then the cell. -/
def Obligations.ChrGetReadsOneCell : Prop :=
  ∀ (t x y : Operand) (s : State),
    SelectedBy (.chrGet t x y) 0x42 t x y 0 ∧
    if 255 < t.toNat then FailsWith (exec (.chrGet t x y) s) s 2 0x40 t
    else if 63 < x.toNat then FailsWith (exec (.chrGet t x y) s) s 2 0x41 x
    else if 63 < y.toNat then FailsWith (exec (.chrGet t x y) s) s 2 0x42 y
    else if 63 < y.toNat * 64 + x.toNat then
      FailsWith (exec (.chrGet t x y) s) s 2 0x45 (BitVec.ofNat 16 (y.toNat * 64 + x.toNat))
    else SucceedsWith (exec (.chrGet t x y) s) s
      (BitVec.ofNat 32 (Memory.read s.chr (t.toNat * 64 + (y.toNat * 64 + x.toNat))).toNat)

/-- 42_charbank.md R153, R154, R156: the checks in order, then the one cell that is written. -/
def Obligations.ChrSetWritesOneCell : Prop :=
  ∀ (t x y v : Operand) (s : State),
    SelectedBy (.chrSet t x y v) 0x43 t x y v ∧
    if 255 < t.toNat then FailsWith (exec (.chrSet t x y v) s) s 2 0x40 t
    else if 63 < x.toNat then FailsWith (exec (.chrSet t x y v) s) s 2 0x41 x
    else if 63 < y.toNat then FailsWith (exec (.chrSet t x y v) s) s 2 0x42 y
    else if 15 < v.toNat then FailsWith (exec (.chrSet t x y v) s) s 2 0x43 v
    else if 63 < y.toNat * 64 + x.toNat then
      FailsWith (exec (.chrSet t x y v) s) s 2 0x45 (BitVec.ofNat 16 (y.toNat * 64 + x.toNat))
    else ∃ m, SucceedsWith (exec (.chrSet t x y v) s) { s with chr := m } 0 ∧
      (Memory.read m (t.toNat * 64 + (y.toNat * 64 + x.toNat))).toNat = v.toNat ∧
      ∀ k, k ≠ t.toNat * 64 + (y.toNat * 64 + x.toNat) → Memory.read m k = Memory.read s.chr k

/-- 42_charbank.md R158: entry `i` of `RBUF` is a copy of the colour that cell `i` selects on the page. -/
def Obligations.ChrResolveFillsTheResolveBuffer : Prop :=
  ∀ (t p : Operand) (s : State),
    SelectedBy (.chrResolve t p) 0x44 t p 0 0 ∧
    if 255 < t.toNat then FailsWith (exec (.chrResolve t p) s) s 2 0x40 t
    else if 15 < p.toNat then FailsWith (exec (.chrResolve t p) s) s 2 0x44 p
    else ∃ m, SucceedsWith (exec (.chrResolve t p) s) { s with rbuf := m } 0 ∧
      ∀ i < 64, Memory.read m i =
        Memory.read s.pal ((Memory.read s.chr (t.toNat * 64 + i)).toNat + p.toNat * 16)

/-- 42_charbank.md R157: both round trips, for every content. -/
def Obligations.CharacterBankRoundTrips : Prop :=
  (∀ s : State, s.payLen.toNat = 8192 → ∃ t u : State, exec .chrDec s = .next t ∧ exec .chrEnc t = .next u ∧
    u.lasterr = 0 ∧ ∀ a, Memory.read u.pay a = Memory.read s.pay a) ∧
  (∀ s : State, ∃ t u : State, exec .chrEnc s = .next t ∧ exec .chrDec t = .next u ∧
    u.lasterr = 0 ∧ ∀ k < 16384, Memory.read u.chr k = Memory.read s.chr k)

/-! ## The bitmap -/

/-- 43_bitmap.md R172: both index functions of the bitmap transform are bijections from the tuples onto 0 ..< 49152. -/
def Obligations.BitmapIndexPairIsABijection : Prop :=
  (∀ l k j i y x, l < 3 → k < 4 → j < 8 → i < 8 → y < 8 → x < 8 →
    grpSrc l k j i y x < 49152 ∧ grpDst l k j i y x < 49152) ∧
  (∀ d < 49152, ∃ l k j i y x, (l < 3 ∧ k < 4 ∧ j < 8 ∧ i < 8 ∧ y < 8 ∧ x < 8 ∧ grpDst l k j i y x = d) ∧
    ∀ l' k' j' i' y' x', l' < 3 → k' < 4 → j' < 8 → i' < 8 → y' < 8 → x' < 8 → grpDst l' k' j' i' y' x' = d →
      l' = l ∧ k' = k ∧ j' = j ∧ i' = i ∧ y' = y ∧ x' = x) ∧
  (∀ a < 49152, ∃ l k j i y x, (l < 3 ∧ k < 4 ∧ j < 8 ∧ i < 8 ∧ y < 8 ∧ x < 8 ∧ grpSrc l k j i y x = a) ∧
    ∀ l' k' j' i' y' x', l' < 3 → k' < 4 → j' < 8 → i' < 8 → y' < 8 → x' < 8 → grpSrc l' k' j' i' y' x' = a →
      l' = l ∧ k' = k ∧ j' = j ∧ i' = i ∧ y' = y ∧ x' = x)

/-- 43_bitmap.md R170, R174: for every tuple, the pixel at the raster index is the payload byte at the payload index. -/
def Obligations.GrpDecPlacesEveryPixel : Prop :=
  ∀ s : State,
    SelectedBy .grpDec 0x50 0 0 0 0 ∧
    (s.payLen.toNat = 49152 → ∃ m, SucceedsWith (exec .grpDec s) { s with img := m } 0 ∧
      ∀ l k j i y x, l < 3 → k < 4 → j < 8 → i < 8 → y < 8 → x < 8 →
        Memory.read m (l * 16384 + k * 64 + j * 2048 + i * 8 + y * 256 + x) =
          Memory.read s.pay (l * 16384 + k * 4096 + j * 512 + i * 64 + y * 8 + x)) ∧
    (s.payLen.toNat ≠ 49152 → FailsWith (exec .grpDec s) s 1 0x01 s.payLen)

/-- 43_bitmap.md R170, R175: the exact inverse mapping. -/
def Obligations.GrpEncPlacesEveryByte : Prop :=
  ∀ s : State,
    SelectedBy .grpEnc 0x51 0 0 0 0 ∧
    ∃ m, SucceedsWith (exec .grpEnc s) { s with pay := m, payLen := 49152 } 0 ∧
    (∀ l k j i y x, l < 3 → k < 4 → j < 8 → i < 8 → y < 8 → x < 8 →
      Memory.read m (l * 16384 + k * 4096 + j * 512 + i * 64 + y * 8 + x) =
        Memory.read s.img (l * 16384 + k * 64 + j * 2048 + i * 8 + y * 256 + x)) ∧
    ∀ a, 49152 ≤ a → Memory.read m a = Memory.read s.pay a

/-- 43_bitmap.md R176, R177: the checks in order, then the one pixel that is read or written. -/
def Obligations.GrpGetAndSetAccessOnePixel : Prop :=
  ∀ (x y v : Operand) (s : State),
    SelectedBy (.grpGet x y) 0x52 x y 0 0 ∧
    SelectedBy (.grpSet x y v) 0x53 x y v 0 ∧
    (if 255 < x.toNat then FailsWith (exec (.grpGet x y) s) s 2 0x50 x
    else if 191 < y.toNat then FailsWith (exec (.grpGet x y) s) s 2 0x51 y
    else SucceedsWith (exec (.grpGet x y) s) s
      (BitVec.ofNat 32 (Memory.read s.img (y.toNat * 256 + x.toNat)).toNat)) ∧
    (if 255 < x.toNat then FailsWith (exec (.grpSet x y v) s) s 2 0x50 x
    else if 191 < y.toNat then FailsWith (exec (.grpSet x y v) s) s 2 0x51 y
    else if 255 < v.toNat then FailsWith (exec (.grpSet x y v) s) s 2 0x52 v
    else ∃ m, SucceedsWith (exec (.grpSet x y v) s) { s with img := m } 0 ∧
      (Memory.read m (y.toNat * 256 + x.toNat)).toNat = v.toNat ∧
      ∀ k, k ≠ y.toNat * 256 + x.toNat → Memory.read m k = Memory.read s.img k)

/-- 43_bitmap.md R178: both round trips, for every content. -/
def Obligations.BitmapRoundTrips : Prop :=
  (∀ s : State, s.payLen.toNat = 49152 → ∃ t u : State, exec .grpDec s = .next t ∧ exec .grpEnc t = .next u ∧
    u.lasterr = 0 ∧ ∀ a, Memory.read u.pay a = Memory.read s.pay a) ∧
  (∀ s : State, ∃ t u : State, exec .grpEnc s = .next t ∧ exec .grpDec t = .next u ∧
    u.lasterr = 0 ∧ ∀ d < 49152, Memory.read u.img d = Memory.read s.img d)

/-! ## The tile map -/

/-- 44_tilemap.md R193, R194: the tile word, for every legal configuration. -/
def Obligations.TileWordFollowsTheConfiguration : Prop :=
  ∀ (cfg : Config) (w : BitVec 16) (t : Tile), cfg.wf = true →
    ((tileFromRaw cfg w).chr.toNat = w.toNat % 1024 ∧
      (tileFromRaw cfg w).pal.toNat = (w.toNat / 4096) &&& cfg.palMask.toNat ∧
      (tileFromRaw cfg w).fh = w.getLsbD cfg.flipHBit ∧ (tileFromRaw cfg w).fv = w.getLsbD cfg.flipVBit) ∧
    (tileToRaw cfg t).toNat = t.chr.toNat + t.fh.toNat * 2 ^ cfg.flipHBit + t.fv.toNat * 2 ^ cfg.flipVBit +
      t.pal.toNat % 16 * 4096

/-- 44_tilemap.md R190, R196: for every tuple and every legal configuration, the slot holds the tile of its tile word. -/
def Obligations.ScrDecPlacesEveryTile : Prop :=
  ∀ s : State,
    SelectedBy .scrDec 0x60 0 0 0 0 ∧
    (s.payLen.toNat = 8192 → ∃ m, SucceedsWith (exec .scrDec s) { s with tmap := m } 0 ∧
      (s.cfg.wf = true → ∀ j i y x, j < 2 → i < 2 → y < 32 → x < 32 →
        Memory.read m (j * 2048 + y * 64 + i * 32 + x) =
          tileFromRaw s.cfg (field16 s.pay (j * 4096 + i * 2048 + y * 64 + x * 2)))) ∧
    (s.payLen.toNat ≠ 8192 → FailsWith (exec .scrDec s) s 1 0x01 s.payLen)

/-- 44_tilemap.md R190, R197: for every tuple, the two bytes of the slot's tile word, low byte first. -/
def Obligations.ScrEncPlacesEveryTile : Prop :=
  ∀ s : State,
    SelectedBy .scrEnc 0x61 0 0 0 0 ∧
    ∃ m, SucceedsWith (exec .scrEnc s) { s with pay := m, payLen := 8192 } 0 ∧
    (∀ j i y x, j < 2 → i < 2 → y < 32 → x < 32 →
      Memory.read m (j * 4096 + i * 2048 + y * 64 + x * 2) =
        (tileToRaw s.cfg (Memory.read s.tmap (j * 2048 + y * 64 + i * 32 + x))).extractLsb' 0 8 ∧
      Memory.read m (j * 4096 + i * 2048 + y * 64 + x * 2 + 1) =
        (tileToRaw s.cfg (Memory.read s.tmap (j * 2048 + y * 64 + i * 32 + x))).extractLsb' 8 8) ∧
    ∀ a, 8192 ≤ a → Memory.read m a = Memory.read s.pay a

/-- 44_tilemap.md R198, R199, R204: the four fields, and the tile word, of the slot `y*64 + x`. -/
def Obligations.ScrGetAndGetrawReadOneTile : Prop :=
  ∀ (x y : Operand) (s : State),
    SelectedBy (.scrGet x y) 0x62 x y 0 0 ∧
    SelectedBy (.scrGetraw x y) 0x63 x y 0 0 ∧
    if 63 < x.toNat then
      FailsWith (exec (.scrGet x y) s) s 2 0x60 x ∧ FailsWith (exec (.scrGetraw x y) s) s 2 0x60 x
    else if 63 < y.toNat then
      FailsWith (exec (.scrGet x y) s) s 2 0x61 y ∧ FailsWith (exec (.scrGetraw x y) s) s 2 0x61 y
    else
      SucceedsWith (exec (.scrGet x y) s) s (BitVec.ofNat 32 (
        (Memory.read s.tmap (y.toNat * 64 + x.toNat)).chr.toNat +
        (Memory.read s.tmap (y.toNat * 64 + x.toNat)).pal.toNat * 1024 +
        (Memory.read s.tmap (y.toNat * 64 + x.toNat)).fh.toNat * 1048576 +
        (Memory.read s.tmap (y.toNat * 64 + x.toNat)).fv.toNat * 2097152)) ∧
      SucceedsWith (exec (.scrGetraw x y) s) s
        (BitVec.ofNat 32 (tileToRaw s.cfg (Memory.read s.tmap (y.toNat * 64 + x.toNat))).toNat)

/-- 44_tilemap.md R200: all four fields of the slot are replaced. -/
def Obligations.ScrSetrawWritesOneTile : Prop :=
  ∀ (x y w : Operand) (s : State),
    SelectedBy (.scrSetraw x y w) 0x64 x y w 0 ∧
    if 63 < x.toNat then FailsWith (exec (.scrSetraw x y w) s) s 2 0x60 x
    else if 63 < y.toNat then FailsWith (exec (.scrSetraw x y w) s) s 2 0x61 y
    else ∃ m, SucceedsWith (exec (.scrSetraw x y w) s) { s with tmap := m } 0 ∧
      Memory.read m (y.toNat * 64 + x.toNat) = tileFromRaw s.cfg w ∧
      ∀ k, k ≠ y.toNat * 64 + x.toNat → Memory.read m k = Memory.read s.tmap k

/-- 44_tilemap.md R201: the other three fields stay. -/
def Obligations.ScrSetchrWritesOneField : Prop :=
  ∀ (x y v : Operand) (s : State),
    SelectedBy (.scrSetchr x y v) 0x65 x y v 0 ∧
    if 63 < x.toNat then FailsWith (exec (.scrSetchr x y v) s) s 2 0x60 x
    else if 63 < y.toNat then FailsWith (exec (.scrSetchr x y v) s) s 2 0x61 y
    else if 1023 < v.toNat then FailsWith (exec (.scrSetchr x y v) s) s 2 0x62 v
    else ∃ m, SucceedsWith (exec (.scrSetchr x y v) s) { s with tmap := m } 0 ∧
      Memory.read m (y.toNat * 64 + x.toNat) =
        { Memory.read s.tmap (y.toNat * 64 + x.toNat) with chr := BitVec.ofNat 10 v.toNat } ∧
      ∀ k, k ≠ y.toNat * 64 + x.toNat → Memory.read m k = Memory.read s.tmap k

/-- 44_tilemap.md R202: all ten bits are held; the other three fields stay. -/
def Obligations.ScrSetpalWritesOneField : Prop :=
  ∀ (x y v : Operand) (s : State),
    SelectedBy (.scrSetpal x y v) 0x66 x y v 0 ∧
    if 63 < x.toNat then FailsWith (exec (.scrSetpal x y v) s) s 2 0x60 x
    else if 63 < y.toNat then FailsWith (exec (.scrSetpal x y v) s) s 2 0x61 y
    else if 1023 < v.toNat then FailsWith (exec (.scrSetpal x y v) s) s 2 0x63 v
    else ∃ m, SucceedsWith (exec (.scrSetpal x y v) s) { s with tmap := m } 0 ∧
      Memory.read m (y.toNat * 64 + x.toNat) =
        { Memory.read s.tmap (y.toNat * 64 + x.toNat) with pal := BitVec.ofNat 10 v.toNat } ∧
      ∀ k, k ≠ y.toNat * 64 + x.toNat → Memory.read m k = Memory.read s.tmap k

/-- 44_tilemap.md R203: operand bit 0 is the horizontal flag and bit 1 the vertical one, in every configuration. -/
def Obligations.ScrSetflipWritesTheFlags : Prop :=
  ∀ (x y f : Operand) (s : State),
    SelectedBy (.scrSetflip x y f) 0x67 x y f 0 ∧
    if 63 < x.toNat then FailsWith (exec (.scrSetflip x y f) s) s 2 0x60 x
    else if 63 < y.toNat then FailsWith (exec (.scrSetflip x y f) s) s 2 0x61 y
    else if 3 < f.toNat then FailsWith (exec (.scrSetflip x y f) s) s 2 0x64 f
    else ∃ m, SucceedsWith (exec (.scrSetflip x y f) s) { s with tmap := m } 0 ∧
      Memory.read m (y.toNat * 64 + x.toNat) =
        { Memory.read s.tmap (y.toNat * 64 + x.toNat) with
          fh := decide (f.toNat % 2 = 1), fv := decide (f.toNat / 2 = 1) } ∧
      ∀ k, k ≠ y.toNat * 64 + x.toNat → Memory.read m k = Memory.read s.tmap k

/-- 44_tilemap.md R195, R196, R197: for either legal assignment of the flip bits and the palette decode mask 0xF,
decoding then encoding restores every byte of `PAY`; encoding then decoding restores every tile but for the palette's upper
six bits. -/
def Obligations.TileMapRoundTrips : Prop :=
  (∀ s : State, s.cfg.wf = true → s.cfg.palMask = 0xF#4 → s.payLen.toNat = 8192 →
    ∃ t u : State, exec .scrDec s = .next t ∧ exec .scrEnc t = .next u ∧
      u.lasterr = 0 ∧ ∀ a, Memory.read u.pay a = Memory.read s.pay a) ∧
  (∀ s : State, s.cfg.wf = true → s.cfg.palMask = 0xF#4 →
    ∃ t u : State, exec .scrEnc s = .next t ∧ exec .scrDec t = .next u ∧
      u.lasterr = 0 ∧ ∀ d < 4096, Memory.read u.tmap d =
        { Memory.read s.tmap d with pal := BitVec.ofNat 10 ((Memory.read s.tmap d).pal.toNat % 16) })

/-! ## The string slot -/

/-- 45_stringslot.md R222, R223: the checks in order, of the slots the first bad one being reported; a payload without
a failure decodes: the cells inside the length are the bytes of their codes, the others 0, and `STRLEN` is half the length
field. -/
def Obligations.MemDecDecodesOrReportsTheFirstFailure : Prop :=
  ∀ s : State,
    SelectedBy .memDec 0x70 0 0 0 0 ∧
    if s.payLen.toNat ≠ 516 then FailsWith (exec .memDec s) s 1 0x01 s.payLen
    else if lengthField s.pay % 2 = 1 ∨ 512 < lengthField s.pay then
      FailsWith (exec .memDec s) s 5 0x74 (BitVec.ofNat 16 (lengthField s.pay))
    else
      (∀ i < 256, (∀ j < i, SlotGood s (lengthField s.pay / 2) j) → ¬SlotGood s (lengthField s.pay / 2) i →
        FailsWith (exec .memDec s) s 5 (if i < lengthField s.pay / 2 then 0x72 else 0x73) (BitVec.ofNat 16 i)) ∧
      ((∀ i < 256, SlotGood s (lengthField s.pay / 2) i) →
        ∃ m, SucceedsWith (exec .memDec s)
            { s with str := m, strLen := BitVec.ofNat 16 (lengthField s.pay / 2) } 0 ∧
          (∀ i < lengthField s.pay / 2, ∃ b : BitVec 8,
            byteToCode s.cfg b = field16 s.pay (2 * i) ∧ (Memory.read m i).toNat = b.toNat) ∧
          ∀ i < 256, lengthField s.pay / 2 ≤ i → Memory.read m i = 0)

/-- 45_stringslot.md R224: the length is checked before anything else, then the first bad cell inside it is reported; a
good string encodes to its codes, zero slots and the length field, and no byte from 516 on changes. -/
def Obligations.MemEncEncodesOrReportsTheFirstFailure : Prop :=
  ∀ s : State,
    SelectedBy .memEnc 0x71 0 0 0 0 ∧
    if 256 < s.strLen.toNat then FailsWith (exec .memEnc s) s 5 0x70 s.strLen
    else
      (∀ i < s.strLen.toNat, (∀ j < i, (Memory.read s.str j).toNat ≤ 255) → 255 < (Memory.read s.str i).toNat →
        FailsWith (exec .memEnc s) s 5 0x71 (BitVec.ofNat 16 i)) ∧
      ((∀ i < s.strLen.toNat, (Memory.read s.str i).toNat ≤ 255) →
        ∃ m, SucceedsWith (exec .memEnc s) { s with pay := m, payLen := 516 } 0 ∧
          (∀ i < s.strLen.toNat,
            field16 m (2 * i) = byteToCode s.cfg (BitVec.ofNat 8 (Memory.read s.str i).toNat)) ∧
          (∀ i < 256, s.strLen.toNat ≤ i → field16 m (2 * i) = 0) ∧
          lengthField m = 2 * s.strLen.toNat ∧
          ∀ a, 516 ≤ a → Memory.read m a = Memory.read s.pay a)

/-- 45_stringslot.md R225, for every legal configuration: (a) if `MEM.DEC` succeeds, `MEM.ENC` then succeeds and restores
every byte of `PAY`; (b) if `MEM.ENC` succeeds, `MEM.DEC` then succeeds, restores `STRLEN` and the cells inside it, and
clears the others. -/
def Obligations.StringSlotRoundTrips : Prop :=
  (∀ s t : State, s.cfg.wf = true → exec .memDec s = .next t → t.lasterr = 0 →
    ∃ u : State, exec .memEnc t = .next u ∧ u.lasterr = 0 ∧ ∀ a, Memory.read u.pay a = Memory.read s.pay a) ∧
  (∀ s t : State, s.cfg.wf = true → exec .memEnc s = .next t → t.lasterr = 0 →
    ∃ u : State, exec .memDec t = .next u ∧ u.lasterr = 0 ∧ u.strLen = s.strLen ∧
      (∀ i < s.strLen.toNat, Memory.read u.str i = Memory.read s.str i) ∧
      ∀ i < 256, s.strLen.toNat ≤ i → Memory.read u.str i = 0)

/-! ## The assembler -/

/-- 30_encoding.md R98, R99: every pseudo-instruction expands to its commands, for all operands; a run of stores as long as
its last index is an operand (beyond that there is no expansion: assumption 16). -/
def Obligations.PseudoInstructionsExpandToTheirCommands : Prop :=
  (expandPseudo "SYS.RDERR" [] = some [.sysRdcsr 0]) ∧
  (∀ n : Operand, expandPseudo "PAY.LEN" [n.toNat] = some [.sysWrcsr 2 n] ∧
    expandPseudo "STR.LEN" [n.toNat] = some [.sysWrcsr 3 n]) ∧
  (∀ n r g b : Operand, expandPseudo "COL.SETRGB" [n.toNat, r.toNat, g.toNat, b.toNat] =
    some [.colSetr n r, .colSetg n g, .colSetb n b]) ∧
  (∀ (base : Nat) (vs : List Operand), vs ≠ [] → base + vs.length ≤ 65536 →
    expandPseudo "PAY.FILL" (base :: vs.map BitVec.toNat) =
      some (vs.zipIdx.map fun p => .payWr (BitVec.ofNat 16 (base + p.2)) p.1) ∧
    expandPseudo "STR.PUT" (base :: vs.map BitVec.toNat) =
      some (vs.zipIdx.map fun p => .strWr (BitVec.ofNat 16 (base + p.2)) p.1))
end

