-- ==== Sys2Proof/Laws/CommandWord.lean ====
section
/-! SUPPORT. Laws/CommandWord.lean: a command word and its five fields determine each other (30_encoding.md R91), and the
decoder's table agrees with the legality checks of WellFormed.lean (R93, R94). -/

namespace Sys2Proof

/-- A command word as a number: its fields at their places (30_encoding.md R91). -/
theorem toNat_commandWord (op : BitVec 8) (a b c d : Operand) : (commandWord op a b c d).toNat =
    op.toNat * 2 ^ 64 + a.toNat * 2 ^ 48 + b.toNat * 2 ^ 32 + c.toNat * 2 ^ 16 + d.toNat := by
  have := a.isLt; have := b.isLt; have := c.isLt; have := d.isLt
  simp only [commandWord, BitVec.toNat_append]
  rw [← Nat.shiftLeft_add_eq_or_of_lt (by omega), ← Nat.shiftLeft_add_eq_or_of_lt (by omega),
    ← Nat.shiftLeft_add_eq_or_of_lt (by omega), ← Nat.shiftLeft_add_eq_or_of_lt (by omega)]
  simp only [Nat.shiftLeft_eq]; omega

/-- The fields of a word built from fields (30_encoding.md R91). -/
theorem fields_commandWord (op : BitVec 8) (a b c d : Operand) :
    opField (commandWord op a b c d) = op ∧ a0Field (commandWord op a b c d) = a ∧
      a1Field (commandWord op a b c d) = b ∧ a2Field (commandWord op a b c d) = c ∧
      a3Field (commandWord op a b c d) = d := by
  have := op.isLt; have := a.isLt; have := b.isLt; have := c.isLt; have := d.isLt
  refine ⟨?_, ?_, ?_, ?_, ?_⟩ <;> apply BitVec.eq_of_toNat_eq <;>
    simp only [opField, a0Field, a1Field, a2Field, a3Field, BitVec.extractLsb'_toNat, toNat_commandWord,
      Nat.shiftRight_eq_div_pow] <;> omega

/-- The word built from a word's fields (30_encoding.md R91). -/
theorem commandWord_fields (w : CommandWord) :
    commandWord (opField w) (a0Field w) (a1Field w) (a2Field w) (a3Field w) = w := by
  apply BitVec.eq_of_toNat_eq
  have := w.isLt
  simp only [toNat_commandWord, opField, a0Field, a1Field, a2Field, a3Field, BitVec.extractLsb'_toNat,
    Nat.shiftRight_eq_div_pow]
  omega

theorem toNat_opField (w : CommandWord) : (opField w).toNat = w.toNat / 2 ^ 64 := by
  have := w.isLt
  simp only [opField, BitVec.extractLsb'_toNat, Nat.shiftRight_eq_div_pow]; omega

/-- The decoder's table lists the opcodes of WellFormed.lean, with the same number of operands (30_encoding.md R93). -/
theorem opcodeRow?_operands : ∀ op : BitVec 8, (opcodeRow? op).map (·.operands) = usedOperands op.toNat := by
  decide +kernel

/-- No command uses more than the four operand fields (30_encoding.md R93). -/
theorem usedOperands_le {op n : Nat} (h : usedOperands op = some n) : n ≤ 4 := by
  simp only [usedOperands] at h
  repeat' split at h
  all_goals first | (cases h; omega) | cases h

/-- The unused fields are the low bits of the word (30_encoding.md R94). -/
theorem unusedFieldsZero_eq (w : CommandWord) {n : Nat} (hn : n ≤ 4) :
    unusedFieldsZero n (a0Field w) (a1Field w) (a2Field w) (a3Field w) = (w.toNat % 2 ^ (64 - 16 * n) == 0) := by
  have e : ∀ x : Operand, (x == 0) = (x.toNat == 0) := by
    intro x; rw [Bool.eq_iff_iff]; simp [BitVec.toNat_eq]
  have h0 : (a0Field w).toNat = w.toNat / 2 ^ 48 % 2 ^ 16 := by
    simp only [a0Field, BitVec.extractLsb'_toNat, Nat.shiftRight_eq_div_pow]
  have h1 : (a1Field w).toNat = w.toNat / 2 ^ 32 % 2 ^ 16 := by
    simp only [a1Field, BitVec.extractLsb'_toNat, Nat.shiftRight_eq_div_pow]
  have h2 : (a2Field w).toNat = w.toNat / 2 ^ 16 % 2 ^ 16 := by
    simp only [a2Field, BitVec.extractLsb'_toNat, Nat.shiftRight_eq_div_pow]
  have h3 : (a3Field w).toNat = w.toNat % 2 ^ 16 := by
    simp only [a3Field, BitVec.extractLsb'_toNat, Nat.shiftRight_zero]
  simp only [unusedFieldsZero, e, h0, h1, h2, h3]
  rw [Bool.eq_iff_iff]
  interval_cases n <;> simp <;> omega

/-- A word built from a listed opcode with its unused fields zero selects a command (30_encoding.md R97). -/
theorem wf_commandWord {op : BitVec 8} {a b c d : Operand} (n : Nat) (h : usedOperands op.toNat = some n)
    (hz : unusedFieldsZero n a b c d = true) : (commandWord op a b c d).wf = true := by
  obtain ⟨f, f0, f1, f2, f3⟩ := fields_commandWord op a b c d
  have hop : (commandWord op a b c d).toNat / 2 ^ 64 = op.toNat := by rw [← toNat_opField, f]
  have hu := unusedFieldsZero_eq (commandWord op a b c d) (usedOperands_le h)
  rw [f0, f1, f2, f3, hz] at hu
  simp only [CommandWord.wf, CommandWord.opcodeListed, CommandWord.unusedZero, hop, h]
  simpa using hu.symm

end Sys2Proof
end

