-- ==== Sys2Proof/Laws/Memory.lean ====
section
/-! SUPPORT. Laws/Memory.lean: reading after each buffer operation, and that every operation keeps the canonical form. -/

namespace Sys2Proof.Machine

section

variable {α : Type} [Inhabited α]

@[simp] theorem Memory.read_nil (a : Nat) : Memory.read ([] : Memory α) a = Memory.unlisted := rfl

theorem Memory.read_cons (c : Nat × α) (m : Memory α) (a : Nat) :
    Memory.read (c :: m) a = if c.1 = a then c.2 else Memory.read m a := rfl

/-- A cell of an index that is not listed reads as unlisted. -/
theorem Memory.read_of_not_mem_keys {m : Memory α} {a : Nat} (h : a ∉ Memory.keys m) :
    Memory.read m a = Memory.unlisted := by
  induction m with
  | nil => rfl
  | cons c m ih =>
    simp only [Memory.keys, List.map_cons, List.mem_cons, not_or] at h
    rw [Memory.read_cons, if_neg (fun e => h.1 e.symm)]
    exact ih h.2

/-- Only listed indices can read as anything but unlisted. -/
theorem Memory.mem_keys_of_read_ne {m : Memory α} {a : Nat} (h : Memory.read m a ≠ Memory.unlisted) :
    a ∈ Memory.keys m := by
  by_contra hk
  exact h (Memory.read_of_not_mem_keys hk)

omit [Inhabited α] in
theorem Memory.mem_keys_erase {m : Memory α} {a b : Nat} :
    b ∈ Memory.keys (Memory.erase m a) ↔ b ∈ Memory.keys m ∧ b ≠ a := by
  simp only [Memory.keys, Memory.erase, List.mem_map, List.mem_filter]
  constructor
  · rintro ⟨c, ⟨hc, hne⟩, rfl⟩
    exact ⟨⟨c, hc, rfl⟩, by simpa using hne⟩
  · rintro ⟨⟨c, hc, rfl⟩, hne⟩
    exact ⟨c, ⟨hc, by simpa using hne⟩, rfl⟩

/-- Filtering by index does not change the cells whose index is kept. -/
theorem Memory.read_filter_keys (m : Memory α) (p : Nat → Bool) (a : Nat) :
    Memory.read (m.filter (fun c => p c.1)) a = if p a then Memory.read m a else Memory.unlisted := by
  induction m with
  | nil => simp
  | cons c m ih =>
    by_cases hp : p c.1
    · rw [List.filter_cons_of_pos (by simpa using hp), Memory.read_cons, ih, Memory.read_cons]
      by_cases hc : c.1 = a
      · subst hc; simp [hp]
      · simp [hc]
    · rw [List.filter_cons_of_neg (by simpa using hp), ih, Memory.read_cons]
      by_cases hc : c.1 = a
      · subst hc; simp [hp]
      · simp [hc]

theorem Memory.read_erase (m : Memory α) (a b : Nat) :
    Memory.read (Memory.erase m a) b = if b = a then Memory.unlisted else Memory.read m b := by
  have h := Memory.read_filter_keys m (fun k => k != a) b
  rw [Memory.erase, h]
  by_cases hb : b = a <;> simp [hb]

theorem Memory.read_insert {m : Memory α} {a : Nat} (ha : a ∉ Memory.keys m) (v : α) (b : Nat) :
    Memory.read (Memory.insert m a v) b = if b = a then v else Memory.read m b := by
  induction m with
  | nil => simp [Memory.insert, Memory.read_cons, eq_comm]
  | cons c m ih =>
    obtain ⟨k, w⟩ := c
    simp only [Memory.keys, List.map_cons, List.mem_cons, not_or] at ha
    simp only [Memory.insert]
    split
    · by_cases hb : b = a
      · simp [Memory.read_cons, hb]
      · simp [Memory.read_cons, hb, Ne.symm hb]
    · rw [Memory.read_cons, ih ha.2, Memory.read_cons]
      by_cases hb : b = a
      · subst hb; simp [Ne.symm ha.1]
      · simp [hb]

variable [DecidableEq α]

/-- Read after write: the written cell reads as the value, every other as before. -/
theorem Memory.read_write (m : Memory α) (a : Nat) (v : α) (b : Nat) :
    Memory.read (Memory.write m a v) b = if b = a then v else Memory.read m b := by
  rw [Memory.write]
  split
  · next hv => rw [Memory.read_erase, hv]
  · rw [Memory.read_insert (by simp [Memory.mem_keys_erase]), Memory.read_erase]
    by_cases hb : b = a <;> simp [hb]

@[simp] theorem Memory.read_write_same (m : Memory α) (a : Nat) (v : α) :
    Memory.read (Memory.write m a v) a = v := by simp [Memory.read_write]

theorem Memory.read_write_other (m : Memory α) {a b : Nat} (v : α) (h : b ≠ a) :
    Memory.read (Memory.write m a v) b = Memory.read m b := by simp [Memory.read_write, h]

theorem Memory.read_foldr_write (ks : List Nat) (f : Nat → α) (m : Memory α) (a : Nat) :
    Memory.read (ks.foldr (fun k acc => Memory.write acc k (f k)) m) a =
      if a ∈ ks then f a else Memory.read m a := by
  induction ks with
  | nil => simp
  | cons k ks ih =>
    rw [List.foldr_cons, Memory.read_write, ih]
    by_cases h : a = k
    · simp [h]
    · simp [h]

/-- What filling a buffer does, whole: cells below `n` read as `f` says, the others as before. The candidates must name
every index below `n` at which `f` is not what an unlisted cell reads as. -/
theorem Memory.read_fill {n : Nat} {candidates : List Nat} {f : Nat → α}
    (h : ∀ k < n, f k ≠ Memory.unlisted → k ∈ candidates) (m : Memory α) (a : Nat) :
    Memory.read (Memory.fill n candidates f m) a = if a < n then f a else Memory.read m a := by
  rw [Memory.fill, Memory.read_foldr_write,
    Memory.read_filter_keys m (fun k => decide (n ≤ k)) a]
  by_cases ha : a < n
  · by_cases hc : a ∈ candidates
    · simp [ha, hc]
    · have : f a = Memory.unlisted := by
        by_contra hne
        exact hc (h a ha hne)
      simp [ha, hc, this, Nat.not_le.mpr ha]
  · simp [ha, Nat.not_lt.mp ha]

/-! The canonical form. -/

/-- The canonical form, in parts. -/
theorem Memory.wf_iff {n : Nat} {m : Memory α} :
    Memory.wf n m = true ↔
      (Memory.keys m).Pairwise (· < ·) ∧ ∀ c ∈ m, c.1 < n ∧ c.2 ≠ Memory.unlisted := by
  simp [Memory.wf, List.all_eq_true]

@[simp] theorem Memory.wf_nil (n : Nat) : Memory.wf n ([] : Memory α) = true := by simp [Memory.wf, Memory.keys]

omit [Inhabited α] [DecidableEq α] in
theorem Memory.keys_pairwise_filter {m : Memory α} (p : Nat × α → Bool)
    (h : (Memory.keys m).Pairwise (· < ·)) : (Memory.keys (m.filter p)).Pairwise (· < ·) :=
  h.sublist (List.Sublist.map _ List.filter_sublist)

theorem Memory.wf_filter {n : Nat} {m : Memory α} (p : Nat × α → Bool) (h : Memory.wf n m = true) :
    Memory.wf n (m.filter p) = true := by
  rw [Memory.wf_iff] at h ⊢
  exact ⟨Memory.keys_pairwise_filter p h.1, fun c hc => h.2 c (List.mem_of_mem_filter hc)⟩

omit [Inhabited α] [DecidableEq α] in
theorem Memory.mem_insert {m : Memory α} {a : Nat} {v : α} {c : Nat × α} :
    c ∈ Memory.insert m a v ↔ c = (a, v) ∨ c ∈ m := by
  induction m with
  | nil => simp [Memory.insert]
  | cons d m ih =>
    simp only [Memory.insert]
    split
    · simp
    · simp only [List.mem_cons, ih]; tauto

omit [Inhabited α] [DecidableEq α] in
theorem Memory.keys_pairwise_insert {m : Memory α} {a : Nat} (v : α) (ha : a ∉ Memory.keys m)
    (h : (Memory.keys m).Pairwise (· < ·)) : (Memory.keys (Memory.insert m a v)).Pairwise (· < ·) := by
  induction m with
  | nil => simp [Memory.insert, Memory.keys]
  | cons d m ih =>
    obtain ⟨k, w⟩ := d
    simp only [Memory.keys, List.map_cons, List.mem_cons, not_or, List.pairwise_cons] at ha h
    simp only [Memory.insert]
    split
    · next hlt =>
      simp only [Memory.keys, List.map_cons, List.pairwise_cons, List.mem_cons, forall_eq_or_imp]
      exact ⟨⟨hlt, fun b hb => hlt.trans (h.1 b hb)⟩, h⟩
    · next hnlt =>
      have hka : k < a := lt_of_le_of_ne (Nat.not_lt.mp hnlt) (Ne.symm ha.1)
      simp only [Memory.keys, List.map_cons, List.pairwise_cons]
      refine ⟨fun b hb => ?_, ih ha.2 h.2⟩
      obtain ⟨c, hc, rfl⟩ := List.mem_map.mp hb
      rcases Memory.mem_insert.mp hc with rfl | hc
      · exact hka
      · exact h.1 _ (List.mem_map_of_mem hc)

/-- A write inside the buffer keeps the canonical form. -/
theorem Memory.wf_write {n : Nat} {m : Memory α} (h : Memory.wf n m = true) {a : Nat} (ha : a < n) (v : α) :
    Memory.wf n (Memory.write m a v) = true := by
  have he : Memory.wf n (Memory.erase m a) = true := Memory.wf_filter _ h
  rw [Memory.write]
  split
  · exact he
  · next hv =>
    rw [Memory.wf_iff] at he ⊢
    refine ⟨Memory.keys_pairwise_insert v (by simp [Memory.mem_keys_erase]) he.1, fun c hc => ?_⟩
    rcases Memory.mem_insert.mp hc with rfl | hc
    · exact ⟨ha, hv⟩
    · exact he.2 c hc

/-- Filling the first `k` cells keeps the canonical form. -/
theorem Memory.wf_fill {n k : Nat} (hk : k ≤ n) (candidates : List Nat) (f : Nat → α) {m : Memory α}
    (h : Memory.wf n m = true) : Memory.wf n (Memory.fill k candidates f m) = true := by
  rw [Memory.fill]
  have hks : ∀ j ∈ candidates.filter (· < k), j < n := fun j hj => by
    have := (List.mem_filter.mp hj).2
    simp only [decide_eq_true_eq] at this
    omega
  generalize candidates.filter (· < k) = ks at hks
  induction ks with
  | nil => exact Memory.wf_filter _ h
  | cons j ks ih =>
    rw [List.foldr_cons]
    exact Memory.wf_write (ih fun i hi => hks i (List.mem_cons_of_mem _ hi)) (hks j List.mem_cons_self) _

/-- A cell that does not exist reads as unlisted. -/
theorem Memory.read_of_le {n : Nat} {m : Memory α} (h : Memory.wf n m = true) {a : Nat} (ha : n ≤ a) :
    Memory.read m a = Memory.unlisted := by
  apply Memory.read_of_not_mem_keys
  intro hk
  obtain ⟨c, hc, rfl⟩ := List.mem_map.mp hk
  exact absurd ((Memory.wf_iff.mp h).2 c hc).1 (by omega)

omit [DecidableEq α] in
/-- In a canonical buffer a listed cell reads as listed. -/
theorem Memory.read_of_mem {m : Memory α} (h : (Memory.keys m).Pairwise (· < ·)) {c : Nat × α} (hc : c ∈ m) :
    Memory.read m c.1 = c.2 := by
  induction m with
  | nil => cases hc
  | cons d m ih =>
    simp only [Memory.keys, List.map_cons, List.pairwise_cons] at h
    rw [Memory.read_cons]
    rcases List.mem_cons.mp hc with rfl | hc
    · simp
    · have := h.1 c.1 (List.mem_map_of_mem hc)
      rw [if_neg (by omega)]
      exact ih h.2 hc

/-- The canonical form is canonical: buffers that read the same are the same list. -/
theorem Memory.eq_of_read_eq {n : Nat} {m m' : Memory α} (h : Memory.wf n m = true) (h' : Memory.wf n m' = true)
    (hr : ∀ a < n, Memory.read m a = Memory.read m' a) : m = m' := by
  rw [Memory.wf_iff] at h h'
  have sub : ∀ {p q : Memory α}, ((Memory.keys p).Pairwise (· < ·) ∧ ∀ c ∈ p, c.1 < n ∧ c.2 ≠ Memory.unlisted) →
      ((Memory.keys q).Pairwise (· < ·) ∧ ∀ c ∈ q, c.1 < n ∧ c.2 ≠ Memory.unlisted) →
      (∀ a < n, Memory.read p a = Memory.read q a) → ∀ c ∈ p, c ∈ q := by
    intro p q hp hq hpq c hc
    have h1 : Memory.read q c.1 = c.2 := by rw [← hpq _ (hp.2 c hc).1, Memory.read_of_mem hp.1 hc]
    have h2 : c.1 ∈ Memory.keys q := Memory.mem_keys_of_read_ne (by rw [h1]; exact (hp.2 c hc).2)
    obtain ⟨d, hd, hdc⟩ := List.mem_map.mp h2
    have h3 := Memory.read_of_mem hq.1 hd
    rw [hdc, h1] at h3
    have : d = c := Prod.ext hdc h3.symm
    exact this ▸ hd
  have pw : ∀ {p : Memory α}, (Memory.keys p).Pairwise (· < ·) → p.Pairwise (fun c d => c.1 < d.1) :=
    fun hp => List.pairwise_map.mp hp
  have nd : ∀ {p : Memory α}, (Memory.keys p).Pairwise (· < ·) → p.Nodup :=
    fun hp => (pw hp).imp (fun {c d} hlt e => by rw [e] at hlt; exact lt_irrefl _ hlt)
  have hperm : m.Perm m' := (List.perm_ext_iff_of_nodup (nd h.1) (nd h'.1)).mpr fun c =>
    ⟨sub h h' hr c, sub h' h (fun a ha => (hr a ha).symm) c⟩
  exact hperm.eq_of_pairwise (fun a b _ _ h1 h2 => absurd (h1.trans h2) (lt_irrefl _)) (pw h.1) (pw h'.1)

end

end Sys2Proof.Machine
end

