-- ==== Sys2Proof/Laws/State.lean ====
section
/-! SUPPORT. Laws/State.lean: what each update of the state leaves in each field (10_state.md R36), so that no proof unfolds
a record update. -/

namespace Sys2Proof.Machine

variable (s : State)

@[simp] theorem State.setPay_cfg (v : Memory (BitVec 8)) : (s.setPay v).cfg = s.cfg := rfl
@[simp] theorem State.setPay_port (v : Memory (BitVec 8)) : (s.setPay v).port = s.port := rfl
@[simp] theorem State.setPay_responses (v : Memory (BitVec 8)) : (s.setPay v).responses = s.responses := rfl
@[simp] theorem State.setPay_lasterr (v : Memory (BitVec 8)) : (s.setPay v).lasterr = s.lasterr := rfl
@[simp] theorem State.setPay_sticky (v : Memory (BitVec 8)) : (s.setPay v).sticky = s.sticky := rfl
@[simp] theorem State.setPay_payLen (v : Memory (BitVec 8)) : (s.setPay v).payLen = s.payLen := rfl
@[simp] theorem State.setPay_strLen (v : Memory (BitVec 8)) : (s.setPay v).strLen = s.strLen := rfl
@[simp] theorem State.setPay_pay (v : Memory (BitVec 8)) : (s.setPay v).pay = v := rfl
@[simp] theorem State.setPay_img (v : Memory (BitVec 8)) : (s.setPay v).img = s.img := rfl
@[simp] theorem State.setPay_pal (v : Memory (BitVec 8)) : (s.setPay v).pal = s.pal := rfl
@[simp] theorem State.setPay_chr (v : Memory (BitVec 8)) : (s.setPay v).chr = s.chr := rfl
@[simp] theorem State.setPay_tmap (v : Memory (BitVec 8)) : (s.setPay v).tmap = s.tmap := rfl
@[simp] theorem State.setPay_str (v : Memory (BitVec 8)) : (s.setPay v).str = s.str := rfl
@[simp] theorem State.setPay_rbuf (v : Memory (BitVec 8)) : (s.setPay v).rbuf = s.rbuf := rfl

@[simp] theorem State.setImg_cfg (v : Memory (BitVec 8)) : (s.setImg v).cfg = s.cfg := rfl
@[simp] theorem State.setImg_port (v : Memory (BitVec 8)) : (s.setImg v).port = s.port := rfl
@[simp] theorem State.setImg_responses (v : Memory (BitVec 8)) : (s.setImg v).responses = s.responses := rfl
@[simp] theorem State.setImg_lasterr (v : Memory (BitVec 8)) : (s.setImg v).lasterr = s.lasterr := rfl
@[simp] theorem State.setImg_sticky (v : Memory (BitVec 8)) : (s.setImg v).sticky = s.sticky := rfl
@[simp] theorem State.setImg_payLen (v : Memory (BitVec 8)) : (s.setImg v).payLen = s.payLen := rfl
@[simp] theorem State.setImg_strLen (v : Memory (BitVec 8)) : (s.setImg v).strLen = s.strLen := rfl
@[simp] theorem State.setImg_pay (v : Memory (BitVec 8)) : (s.setImg v).pay = s.pay := rfl
@[simp] theorem State.setImg_img (v : Memory (BitVec 8)) : (s.setImg v).img = v := rfl
@[simp] theorem State.setImg_pal (v : Memory (BitVec 8)) : (s.setImg v).pal = s.pal := rfl
@[simp] theorem State.setImg_chr (v : Memory (BitVec 8)) : (s.setImg v).chr = s.chr := rfl
@[simp] theorem State.setImg_tmap (v : Memory (BitVec 8)) : (s.setImg v).tmap = s.tmap := rfl
@[simp] theorem State.setImg_str (v : Memory (BitVec 8)) : (s.setImg v).str = s.str := rfl
@[simp] theorem State.setImg_rbuf (v : Memory (BitVec 8)) : (s.setImg v).rbuf = s.rbuf := rfl

@[simp] theorem State.setPal_cfg (v : Memory Color) : (s.setPal v).cfg = s.cfg := rfl
@[simp] theorem State.setPal_port (v : Memory Color) : (s.setPal v).port = s.port := rfl
@[simp] theorem State.setPal_responses (v : Memory Color) : (s.setPal v).responses = s.responses := rfl
@[simp] theorem State.setPal_lasterr (v : Memory Color) : (s.setPal v).lasterr = s.lasterr := rfl
@[simp] theorem State.setPal_sticky (v : Memory Color) : (s.setPal v).sticky = s.sticky := rfl
@[simp] theorem State.setPal_payLen (v : Memory Color) : (s.setPal v).payLen = s.payLen := rfl
@[simp] theorem State.setPal_strLen (v : Memory Color) : (s.setPal v).strLen = s.strLen := rfl
@[simp] theorem State.setPal_pay (v : Memory Color) : (s.setPal v).pay = s.pay := rfl
@[simp] theorem State.setPal_img (v : Memory Color) : (s.setPal v).img = s.img := rfl
@[simp] theorem State.setPal_pal (v : Memory Color) : (s.setPal v).pal = v := rfl
@[simp] theorem State.setPal_chr (v : Memory Color) : (s.setPal v).chr = s.chr := rfl
@[simp] theorem State.setPal_tmap (v : Memory Color) : (s.setPal v).tmap = s.tmap := rfl
@[simp] theorem State.setPal_str (v : Memory Color) : (s.setPal v).str = s.str := rfl
@[simp] theorem State.setPal_rbuf (v : Memory Color) : (s.setPal v).rbuf = s.rbuf := rfl

@[simp] theorem State.setChr_cfg (v : Memory (BitVec 4)) : (s.setChr v).cfg = s.cfg := rfl
@[simp] theorem State.setChr_port (v : Memory (BitVec 4)) : (s.setChr v).port = s.port := rfl
@[simp] theorem State.setChr_responses (v : Memory (BitVec 4)) : (s.setChr v).responses = s.responses := rfl
@[simp] theorem State.setChr_lasterr (v : Memory (BitVec 4)) : (s.setChr v).lasterr = s.lasterr := rfl
@[simp] theorem State.setChr_sticky (v : Memory (BitVec 4)) : (s.setChr v).sticky = s.sticky := rfl
@[simp] theorem State.setChr_payLen (v : Memory (BitVec 4)) : (s.setChr v).payLen = s.payLen := rfl
@[simp] theorem State.setChr_strLen (v : Memory (BitVec 4)) : (s.setChr v).strLen = s.strLen := rfl
@[simp] theorem State.setChr_pay (v : Memory (BitVec 4)) : (s.setChr v).pay = s.pay := rfl
@[simp] theorem State.setChr_img (v : Memory (BitVec 4)) : (s.setChr v).img = s.img := rfl
@[simp] theorem State.setChr_pal (v : Memory (BitVec 4)) : (s.setChr v).pal = s.pal := rfl
@[simp] theorem State.setChr_chr (v : Memory (BitVec 4)) : (s.setChr v).chr = v := rfl
@[simp] theorem State.setChr_tmap (v : Memory (BitVec 4)) : (s.setChr v).tmap = s.tmap := rfl
@[simp] theorem State.setChr_str (v : Memory (BitVec 4)) : (s.setChr v).str = s.str := rfl
@[simp] theorem State.setChr_rbuf (v : Memory (BitVec 4)) : (s.setChr v).rbuf = s.rbuf := rfl

@[simp] theorem State.setTmap_cfg (v : Memory Tile) : (s.setTmap v).cfg = s.cfg := rfl
@[simp] theorem State.setTmap_port (v : Memory Tile) : (s.setTmap v).port = s.port := rfl
@[simp] theorem State.setTmap_responses (v : Memory Tile) : (s.setTmap v).responses = s.responses := rfl
@[simp] theorem State.setTmap_lasterr (v : Memory Tile) : (s.setTmap v).lasterr = s.lasterr := rfl
@[simp] theorem State.setTmap_sticky (v : Memory Tile) : (s.setTmap v).sticky = s.sticky := rfl
@[simp] theorem State.setTmap_payLen (v : Memory Tile) : (s.setTmap v).payLen = s.payLen := rfl
@[simp] theorem State.setTmap_strLen (v : Memory Tile) : (s.setTmap v).strLen = s.strLen := rfl
@[simp] theorem State.setTmap_pay (v : Memory Tile) : (s.setTmap v).pay = s.pay := rfl
@[simp] theorem State.setTmap_img (v : Memory Tile) : (s.setTmap v).img = s.img := rfl
@[simp] theorem State.setTmap_pal (v : Memory Tile) : (s.setTmap v).pal = s.pal := rfl
@[simp] theorem State.setTmap_chr (v : Memory Tile) : (s.setTmap v).chr = s.chr := rfl
@[simp] theorem State.setTmap_tmap (v : Memory Tile) : (s.setTmap v).tmap = v := rfl
@[simp] theorem State.setTmap_str (v : Memory Tile) : (s.setTmap v).str = s.str := rfl
@[simp] theorem State.setTmap_rbuf (v : Memory Tile) : (s.setTmap v).rbuf = s.rbuf := rfl

@[simp] theorem State.setStr_cfg (v : Memory (BitVec 16)) : (s.setStr v).cfg = s.cfg := rfl
@[simp] theorem State.setStr_port (v : Memory (BitVec 16)) : (s.setStr v).port = s.port := rfl
@[simp] theorem State.setStr_responses (v : Memory (BitVec 16)) : (s.setStr v).responses = s.responses := rfl
@[simp] theorem State.setStr_lasterr (v : Memory (BitVec 16)) : (s.setStr v).lasterr = s.lasterr := rfl
@[simp] theorem State.setStr_sticky (v : Memory (BitVec 16)) : (s.setStr v).sticky = s.sticky := rfl
@[simp] theorem State.setStr_payLen (v : Memory (BitVec 16)) : (s.setStr v).payLen = s.payLen := rfl
@[simp] theorem State.setStr_strLen (v : Memory (BitVec 16)) : (s.setStr v).strLen = s.strLen := rfl
@[simp] theorem State.setStr_pay (v : Memory (BitVec 16)) : (s.setStr v).pay = s.pay := rfl
@[simp] theorem State.setStr_img (v : Memory (BitVec 16)) : (s.setStr v).img = s.img := rfl
@[simp] theorem State.setStr_pal (v : Memory (BitVec 16)) : (s.setStr v).pal = s.pal := rfl
@[simp] theorem State.setStr_chr (v : Memory (BitVec 16)) : (s.setStr v).chr = s.chr := rfl
@[simp] theorem State.setStr_tmap (v : Memory (BitVec 16)) : (s.setStr v).tmap = s.tmap := rfl
@[simp] theorem State.setStr_str (v : Memory (BitVec 16)) : (s.setStr v).str = v := rfl
@[simp] theorem State.setStr_rbuf (v : Memory (BitVec 16)) : (s.setStr v).rbuf = s.rbuf := rfl

@[simp] theorem State.setRbuf_cfg (v : Memory Color) : (s.setRbuf v).cfg = s.cfg := rfl
@[simp] theorem State.setRbuf_port (v : Memory Color) : (s.setRbuf v).port = s.port := rfl
@[simp] theorem State.setRbuf_responses (v : Memory Color) : (s.setRbuf v).responses = s.responses := rfl
@[simp] theorem State.setRbuf_lasterr (v : Memory Color) : (s.setRbuf v).lasterr = s.lasterr := rfl
@[simp] theorem State.setRbuf_sticky (v : Memory Color) : (s.setRbuf v).sticky = s.sticky := rfl
@[simp] theorem State.setRbuf_payLen (v : Memory Color) : (s.setRbuf v).payLen = s.payLen := rfl
@[simp] theorem State.setRbuf_strLen (v : Memory Color) : (s.setRbuf v).strLen = s.strLen := rfl
@[simp] theorem State.setRbuf_pay (v : Memory Color) : (s.setRbuf v).pay = s.pay := rfl
@[simp] theorem State.setRbuf_img (v : Memory Color) : (s.setRbuf v).img = s.img := rfl
@[simp] theorem State.setRbuf_pal (v : Memory Color) : (s.setRbuf v).pal = s.pal := rfl
@[simp] theorem State.setRbuf_chr (v : Memory Color) : (s.setRbuf v).chr = s.chr := rfl
@[simp] theorem State.setRbuf_tmap (v : Memory Color) : (s.setRbuf v).tmap = s.tmap := rfl
@[simp] theorem State.setRbuf_str (v : Memory Color) : (s.setRbuf v).str = s.str := rfl
@[simp] theorem State.setRbuf_rbuf (v : Memory Color) : (s.setRbuf v).rbuf = v := rfl

@[simp] theorem State.setPayLen_cfg (v : BitVec 16) : (s.setPayLen v).cfg = s.cfg := rfl
@[simp] theorem State.setPayLen_port (v : BitVec 16) : (s.setPayLen v).port = s.port := rfl
@[simp] theorem State.setPayLen_responses (v : BitVec 16) : (s.setPayLen v).responses = s.responses := rfl
@[simp] theorem State.setPayLen_lasterr (v : BitVec 16) : (s.setPayLen v).lasterr = s.lasterr := rfl
@[simp] theorem State.setPayLen_sticky (v : BitVec 16) : (s.setPayLen v).sticky = s.sticky := rfl
@[simp] theorem State.setPayLen_payLen (v : BitVec 16) : (s.setPayLen v).payLen = v := rfl
@[simp] theorem State.setPayLen_strLen (v : BitVec 16) : (s.setPayLen v).strLen = s.strLen := rfl
@[simp] theorem State.setPayLen_pay (v : BitVec 16) : (s.setPayLen v).pay = s.pay := rfl
@[simp] theorem State.setPayLen_img (v : BitVec 16) : (s.setPayLen v).img = s.img := rfl
@[simp] theorem State.setPayLen_pal (v : BitVec 16) : (s.setPayLen v).pal = s.pal := rfl
@[simp] theorem State.setPayLen_chr (v : BitVec 16) : (s.setPayLen v).chr = s.chr := rfl
@[simp] theorem State.setPayLen_tmap (v : BitVec 16) : (s.setPayLen v).tmap = s.tmap := rfl
@[simp] theorem State.setPayLen_str (v : BitVec 16) : (s.setPayLen v).str = s.str := rfl
@[simp] theorem State.setPayLen_rbuf (v : BitVec 16) : (s.setPayLen v).rbuf = s.rbuf := rfl

@[simp] theorem State.setStrLen_cfg (v : BitVec 16) : (s.setStrLen v).cfg = s.cfg := rfl
@[simp] theorem State.setStrLen_port (v : BitVec 16) : (s.setStrLen v).port = s.port := rfl
@[simp] theorem State.setStrLen_responses (v : BitVec 16) : (s.setStrLen v).responses = s.responses := rfl
@[simp] theorem State.setStrLen_lasterr (v : BitVec 16) : (s.setStrLen v).lasterr = s.lasterr := rfl
@[simp] theorem State.setStrLen_sticky (v : BitVec 16) : (s.setStrLen v).sticky = s.sticky := rfl
@[simp] theorem State.setStrLen_payLen (v : BitVec 16) : (s.setStrLen v).payLen = s.payLen := rfl
@[simp] theorem State.setStrLen_strLen (v : BitVec 16) : (s.setStrLen v).strLen = v := rfl
@[simp] theorem State.setStrLen_pay (v : BitVec 16) : (s.setStrLen v).pay = s.pay := rfl
@[simp] theorem State.setStrLen_img (v : BitVec 16) : (s.setStrLen v).img = s.img := rfl
@[simp] theorem State.setStrLen_pal (v : BitVec 16) : (s.setStrLen v).pal = s.pal := rfl
@[simp] theorem State.setStrLen_chr (v : BitVec 16) : (s.setStrLen v).chr = s.chr := rfl
@[simp] theorem State.setStrLen_tmap (v : BitVec 16) : (s.setStrLen v).tmap = s.tmap := rfl
@[simp] theorem State.setStrLen_str (v : BitVec 16) : (s.setStrLen v).str = s.str := rfl
@[simp] theorem State.setStrLen_rbuf (v : BitVec 16) : (s.setStrLen v).rbuf = s.rbuf := rfl

@[simp] theorem State.setSticky_cfg (v : BitVec 32) : (s.setSticky v).cfg = s.cfg := rfl
@[simp] theorem State.setSticky_port (v : BitVec 32) : (s.setSticky v).port = s.port := rfl
@[simp] theorem State.setSticky_responses (v : BitVec 32) : (s.setSticky v).responses = s.responses := rfl
@[simp] theorem State.setSticky_lasterr (v : BitVec 32) : (s.setSticky v).lasterr = s.lasterr := rfl
@[simp] theorem State.setSticky_sticky (v : BitVec 32) : (s.setSticky v).sticky = v := rfl
@[simp] theorem State.setSticky_payLen (v : BitVec 32) : (s.setSticky v).payLen = s.payLen := rfl
@[simp] theorem State.setSticky_strLen (v : BitVec 32) : (s.setSticky v).strLen = s.strLen := rfl
@[simp] theorem State.setSticky_pay (v : BitVec 32) : (s.setSticky v).pay = s.pay := rfl
@[simp] theorem State.setSticky_img (v : BitVec 32) : (s.setSticky v).img = s.img := rfl
@[simp] theorem State.setSticky_pal (v : BitVec 32) : (s.setSticky v).pal = s.pal := rfl
@[simp] theorem State.setSticky_chr (v : BitVec 32) : (s.setSticky v).chr = s.chr := rfl
@[simp] theorem State.setSticky_tmap (v : BitVec 32) : (s.setSticky v).tmap = s.tmap := rfl
@[simp] theorem State.setSticky_str (v : BitVec 32) : (s.setSticky v).str = s.str := rfl
@[simp] theorem State.setSticky_rbuf (v : BitVec 32) : (s.setSticky v).rbuf = s.rbuf := rfl

@[simp] theorem State.setPort_cfg (v : List HostInput) : (s.setPort v).cfg = s.cfg := rfl
@[simp] theorem State.setPort_port (v : List HostInput) : (s.setPort v).port = v := rfl
@[simp] theorem State.setPort_responses (v : List HostInput) : (s.setPort v).responses = s.responses := rfl
@[simp] theorem State.setPort_lasterr (v : List HostInput) : (s.setPort v).lasterr = s.lasterr := rfl
@[simp] theorem State.setPort_sticky (v : List HostInput) : (s.setPort v).sticky = s.sticky := rfl
@[simp] theorem State.setPort_payLen (v : List HostInput) : (s.setPort v).payLen = s.payLen := rfl
@[simp] theorem State.setPort_strLen (v : List HostInput) : (s.setPort v).strLen = s.strLen := rfl
@[simp] theorem State.setPort_pay (v : List HostInput) : (s.setPort v).pay = s.pay := rfl
@[simp] theorem State.setPort_img (v : List HostInput) : (s.setPort v).img = s.img := rfl
@[simp] theorem State.setPort_pal (v : List HostInput) : (s.setPort v).pal = s.pal := rfl
@[simp] theorem State.setPort_chr (v : List HostInput) : (s.setPort v).chr = s.chr := rfl
@[simp] theorem State.setPort_tmap (v : List HostInput) : (s.setPort v).tmap = s.tmap := rfl
@[simp] theorem State.setPort_str (v : List HostInput) : (s.setPort v).str = s.str := rfl
@[simp] theorem State.setPort_rbuf (v : List HostInput) : (s.setPort v).rbuf = s.rbuf := rfl

@[simp] theorem State.complete_cfg (c r : BitVec 32) : (s.complete c r).cfg = s.cfg := rfl
@[simp] theorem State.complete_port (c r : BitVec 32) : (s.complete c r).port = s.port := rfl
@[simp] theorem State.complete_responses (c r : BitVec 32) : (s.complete c r).responses = s.responses ++ [responseWord c r] := rfl
@[simp] theorem State.complete_lasterr (c r : BitVec 32) : (s.complete c r).lasterr = c := rfl
@[simp] theorem State.complete_sticky (c r : BitVec 32) : (s.complete c r).sticky = s.sticky := rfl
@[simp] theorem State.complete_payLen (c r : BitVec 32) : (s.complete c r).payLen = s.payLen := rfl
@[simp] theorem State.complete_strLen (c r : BitVec 32) : (s.complete c r).strLen = s.strLen := rfl
@[simp] theorem State.complete_pay (c r : BitVec 32) : (s.complete c r).pay = s.pay := rfl
@[simp] theorem State.complete_img (c r : BitVec 32) : (s.complete c r).img = s.img := rfl
@[simp] theorem State.complete_pal (c r : BitVec 32) : (s.complete c r).pal = s.pal := rfl
@[simp] theorem State.complete_chr (c r : BitVec 32) : (s.complete c r).chr = s.chr := rfl
@[simp] theorem State.complete_tmap (c r : BitVec 32) : (s.complete c r).tmap = s.tmap := rfl
@[simp] theorem State.complete_str (c r : BitVec 32) : (s.complete c r).str = s.str := rfl
@[simp] theorem State.complete_rbuf (c r : BitVec 32) : (s.complete c r).rbuf = s.rbuf := rfl

@[simp] theorem State.afterReset_cfg (d : BufferContents) : (s.afterReset d).cfg = s.cfg := rfl
@[simp] theorem State.afterReset_port (d : BufferContents) : (s.afterReset d).port = s.port := rfl
@[simp] theorem State.afterReset_responses (d : BufferContents) : (s.afterReset d).responses = s.responses := rfl
@[simp] theorem State.afterReset_lasterr (d : BufferContents) : (s.afterReset d).lasterr = 0 := rfl
@[simp] theorem State.afterReset_sticky (d : BufferContents) : (s.afterReset d).sticky = 0 := rfl
@[simp] theorem State.afterReset_payLen (d : BufferContents) : (s.afterReset d).payLen = 0 := rfl
@[simp] theorem State.afterReset_strLen (d : BufferContents) : (s.afterReset d).strLen = 0 := rfl
@[simp] theorem State.afterReset_pay (d : BufferContents) : (s.afterReset d).pay = d.pay := rfl
@[simp] theorem State.afterReset_img (d : BufferContents) : (s.afterReset d).img = d.img := rfl
@[simp] theorem State.afterReset_pal (d : BufferContents) : (s.afterReset d).pal = d.pal := rfl
@[simp] theorem State.afterReset_chr (d : BufferContents) : (s.afterReset d).chr = d.chr := rfl
@[simp] theorem State.afterReset_tmap (d : BufferContents) : (s.afterReset d).tmap = d.tmap := rfl
@[simp] theorem State.afterReset_str (d : BufferContents) : (s.afterReset d).str = d.str := rfl
@[simp] theorem State.afterReset_rbuf (d : BufferContents) : (s.afterReset d).rbuf = d.rbuf := rfl

@[simp] theorem State.withFetchWord_cfg (nbits w : Nat) : (s.withFetchWord nbits w).cfg = s.cfg := rfl
@[simp] theorem State.withFetchWord_port (nbits w : Nat) : (s.withFetchWord nbits w).port = .command (tableWord nbits w) :: s.port := rfl
@[simp] theorem State.withFetchWord_responses (nbits w : Nat) : (s.withFetchWord nbits w).responses = s.responses := rfl
@[simp] theorem State.withFetchWord_lasterr (nbits w : Nat) : (s.withFetchWord nbits w).lasterr = s.lasterr := rfl
@[simp] theorem State.withFetchWord_sticky (nbits w : Nat) : (s.withFetchWord nbits w).sticky = s.sticky := rfl
@[simp] theorem State.withFetchWord_payLen (nbits w : Nat) : (s.withFetchWord nbits w).payLen = s.payLen := rfl
@[simp] theorem State.withFetchWord_strLen (nbits w : Nat) : (s.withFetchWord nbits w).strLen = s.strLen := rfl
@[simp] theorem State.withFetchWord_pay (nbits w : Nat) : (s.withFetchWord nbits w).pay = s.pay := rfl
@[simp] theorem State.withFetchWord_img (nbits w : Nat) : (s.withFetchWord nbits w).img = s.img := rfl
@[simp] theorem State.withFetchWord_pal (nbits w : Nat) : (s.withFetchWord nbits w).pal = s.pal := rfl
@[simp] theorem State.withFetchWord_chr (nbits w : Nat) : (s.withFetchWord nbits w).chr = s.chr := rfl
@[simp] theorem State.withFetchWord_tmap (nbits w : Nat) : (s.withFetchWord nbits w).tmap = s.tmap := rfl
@[simp] theorem State.withFetchWord_str (nbits w : Nat) : (s.withFetchWord nbits w).str = s.str := rfl
@[simp] theorem State.withFetchWord_rbuf (nbits w : Nat) : (s.withFetchWord nbits w).rbuf = s.rbuf := rfl

end Sys2Proof.Machine
end

