-- ==== Sys2Proof/Laws/Completion.lean ====
section
/-! SUPPORT. Laws/Completion.lean: what the shared operations that end a command can do, once for each: the proofs cite
these lemmas and do not unfold the operations. -/

namespace Sys2Proof.Machine

/-- The completion code of an error in the layout of `LASTERR` (10_state.md R24). -/
theorem failureCode_eq_errorCode (c : Cause) (info : BitVec 16) :
    failureCode c info = errorCode c.errorClass.number c.number info := by
  simp only [failureCode, errorCode]
  generalize c.number = k
  have h : ∀ e : ErrorClass, info ++ k ++ 0#4 ++ BitVec.ofNat 4 e.number = info ++ k ++ BitVec.ofNat 8 e.number := by
    intro e
    apply BitVec.eq_of_toNat_eq
    simp only [BitVec.toNat_append]
    cases e <;> simp [ErrorClass.number, ← Nat.shiftLeft_add]
  exact h _

/-- Every class number is one of 1, 2, 5, 6: the RTB raises no other (60_exceptions.md R260). -/
theorem errorClass_number_mem (c : Cause) : c.errorClass.number ∈ [1, 2, 5, 6] := by cases c <;> decide

theorem codeClass_errorCode {n : Nat} (h : n < 16) (k : BitVec 8) (info : BitVec 16) :
    codeClass (errorCode n k info) = n := by
  simp only [codeClass, errorCode, BitVec.extractLsb'_toNat, BitVec.toNat_append, BitVec.toNat_ofNat]
  rw [Nat.shiftRight_zero, Nat.mod_eq_of_lt (show n < 2 ^ 8 by omega), ← Nat.shiftLeft_add_eq_or_of_lt (by omega)]
  simp only [Nat.shiftLeft_eq]
  omega

theorem errorCode_reserved {n : Nat} (h : n < 16) (k : BitVec 8) (info : BitVec 16) :
    (errorCode n k info).extractLsb' 4 4 = 0#4 := by
  apply BitVec.eq_of_toNat_eq
  simp only [errorCode, BitVec.extractLsb'_toNat, BitVec.toNat_append, BitVec.toNat_ofNat]
  rw [Nat.mod_eq_of_lt (show n < 2 ^ 8 by omega), ← Nat.shiftLeft_add_eq_or_of_lt (by omega)]
  simp only [Nat.shiftLeft_eq, Nat.shiftRight_eq_div_pow]
  omega

theorem codeClass_failureCode (c : Cause) (info : BitVec 16) :
    codeClass (failureCode c info) = c.errorClass.number := by
  rw [failureCode_eq_errorCode, codeClass_errorCode (by cases c <;> decide)]

/-- A success ends as `SucceedsWith` says. -/
theorem succeed_succeedsWith (t : State) (v : BitVec 32) : SucceedsWith (succeed t v) t v := rfl

/-- An error ends as `FailsWith` says, with its cause's class and number (60_exceptions.md R261, R262, R270). -/
theorem raise_failsWith (c : Cause) (info : BitVec 16) (s : State) :
    FailsWith (raise c info s) s c.errorClass.number c.number info := by
  rw [FailsWith, raise, failureCode_eq_errorCode]; rfl

/-- What a success leaves. -/
theorem succeed_eq_next {t u : State} {v : BitVec 32} (h : succeed t v = .next u) : u = t.complete 0 v := by
  rw [succeed] at h; exact (Host.Outcome.next.inj h).symm

/-- What an error leaves. -/
theorem raise_eq_next {c : Cause} {info : BitVec 16} {s u : State} (h : raise c info s = .next u) :
    u = (s.setSticky (s.sticky ||| stickyBit c)).complete (failureCode c info) 0 := by
  rw [raise] at h; exact (Host.Outcome.next.inj h).symm

/-- What a command may have written when it succeeds: not the configuration, the port, the responses or `LASTERR`. -/
structure SameControl (s t : State) : Prop where
  cfg : t.cfg = s.cfg
  port : t.port = s.port
  responses : t.responses = s.responses
  lasterr : t.lasterr = s.lasterr

/-- How a command that starts in `s` can end: an error, from `s` itself, or a success from a state `t` with `s`'s control
part, of which `P` holds. -/
def EndsFrom (s : State) (P : State → Prop) (o : Host.Outcome State Fault Refusal) : Prop :=
  (∃ c info, o = raise c info s) ∨ ∃ t v, SameControl s t ∧ P t ∧ o = succeed t v

theorem EndsFrom.raise {s : State} {P : State → Prop} (c : Cause) (info : BitVec 16) :
    EndsFrom s P (raise c info s) := .inl ⟨c, info, rfl⟩

theorem EndsFrom.succeed {s t : State} {P : State → Prop} (h : SameControl s t) (hP : P t) (v : BitVec 32) :
    EndsFrom s P (succeed t v) := .inr ⟨t, v, h, hP, rfl⟩

theorem EndsFrom.mono {s : State} {P Q : State → Prop} {o} (h : EndsFrom s P o) (hPQ : ∀ t, P t → Q t) :
    EndsFrom s Q o := h.imp_right fun ⟨t, v, hc, hP, e⟩ => ⟨t, v, hc, hPQ t hP, e⟩

theorem EndsFrom.ite {s : State} {P : State → Prop} {b : Prop} [Decidable b] {o o'} (h : b → EndsFrom s P o)
    (h' : ¬b → EndsFrom s P o') : EndsFrom s P (if b then o else o') := by
  split
  · exact h ‹_›
  · exact h' ‹_›

/-- A command ends in a next state, whose responses are the old ones and the one of the command. -/
theorem EndsFrom.next {s : State} {P : State → Prop} {o} (h : EndsFrom s P o) :
    ∃ t v, o = .next t ∧ t.responses = s.responses ++ [responseWord t.lasterr v] ∧ t.cfg = s.cfg ∧ t.port = s.port := by
  rcases h with ⟨c, info, rfl⟩ | ⟨t, v, hc, _, rfl⟩
  · exact ⟨_, 0, rfl, rfl, rfl, rfl⟩
  · exact ⟨_, v, rfl, by simp [hc.responses], by simp [hc.cfg], by simp [hc.port]⟩

end Sys2Proof.Machine
end

