-- ==== Sys2Proof/Laws/Commands.lean ====
section
/-! SUPPORT. Laws/Commands.lean: what the operations shared by a family of commands can do, and from them how any command
can end. -/

namespace Sys2Proof.Machine

variable {s : State} {P : State → Prop}

/-! Writing one part of the state keeps the control part. -/

theorem SameControl.refl (s : State) : SameControl s s := ⟨rfl, rfl, rfl, rfl⟩
theorem SameControl.setPay (s : State) (m) : SameControl s (s.setPay m) := ⟨rfl, rfl, rfl, rfl⟩
theorem SameControl.setImg (s : State) (m) : SameControl s (s.setImg m) := ⟨rfl, rfl, rfl, rfl⟩
theorem SameControl.setPal (s : State) (m) : SameControl s (s.setPal m) := ⟨rfl, rfl, rfl, rfl⟩
theorem SameControl.setChr (s : State) (m) : SameControl s (s.setChr m) := ⟨rfl, rfl, rfl, rfl⟩
theorem SameControl.setTmap (s : State) (m) : SameControl s (s.setTmap m) := ⟨rfl, rfl, rfl, rfl⟩
theorem SameControl.setStr (s : State) (m) : SameControl s (s.setStr m) := ⟨rfl, rfl, rfl, rfl⟩
theorem SameControl.setRbuf (s : State) (m) : SameControl s (s.setRbuf m) := ⟨rfl, rfl, rfl, rfl⟩
theorem SameControl.setPayLen (s : State) (v) : SameControl s (s.setPayLen v) := ⟨rfl, rfl, rfl, rfl⟩
theorem SameControl.setStrLen (s : State) (v) : SameControl s (s.setStrLen v) := ⟨rfl, rfl, rfl, rfl⟩
theorem SameControl.setSticky (s : State) (v) : SameControl s (s.setSticky v) := ⟨rfl, rfl, rfl, rfl⟩

theorem SameControl.trans {s t u : State} (h : SameControl s t) (h' : SameControl t u) : SameControl s u :=
  ⟨h'.cfg.trans h.cfg, h'.port.trans h.port, h'.responses.trans h.responses, h'.lasterr.trans h.lasterr⟩

/-! The shared operations. -/

/-- A COL command ends with the slot error or as its own part ends (40_color.md R133). -/
theorem withSlot_ends {n : Operand} {k} (h : n.toNat ≤ 255 → EndsFrom s P (k (Memory.read s.pal n.toNat))) :
    EndsFrom s P (withSlot n s k) :=
  .ite (fun _ => .raise _ _) fun hn => h (by omega)

theorem storeColor_ends {n : Operand} {c : Color} (h : P (s.setPal (Memory.write s.pal n.toNat c))) :
    EndsFrom s P (storeColor n c s) := .succeed (.setPal _ _) h _

/-- An SCR accessor ends with a coordinate error or as its own part ends on a slot that exists (44_tilemap.md R204). -/
theorem withTile_ends {x y : Operand} {k} (h : cellIndex 64 x.toNat y.toNat < tmapCells →
    EndsFrom s P (k (cellIndex 64 x.toNat y.toNat))) : EndsFrom s P (withTile x y s k) :=
  .ite (fun _ => .raise _ _) fun hx => .ite (fun _ => .raise _ _) fun hy =>
    h (by simp only [cellIndex, tmapCells]; omega)

theorem storeTile_ends {slot : Nat} {t : Tile} (h : P (s.setTmap (Memory.write s.tmap slot t))) :
    EndsFrom s P (storeTile slot t s) := .succeed (.setTmap _ _) h _

/-- A `K.DEC` ends with the length error or as its own part ends (20_memory.md R66). -/
theorem withPayload_ends {size : Nat} {k} (h : s.payLen.toNat = size → EndsFrom s P k) :
    EndsFrom s P (withPayload size s k) := .ite (fun _ => .raise _ _) fun hl => h (by simpa using hl)

/-- A `K.ENC` that has passed its checks succeeds (20_memory.md R67). -/
theorem storePayload_ends {size : Nat} {cs f} (h : P ((s.setPay (Memory.fill size cs f s.pay)).setPayLen
    (BitVec.ofNat 16 size))) : EndsFrom s P (storePayload size cs f s) :=
  .succeed ((SameControl.setPay _ _).trans (.setPayLen _ _)) h _

/-- What `SYS.RDCSR` finds (10_state.md R23). -/
theorem readCsr?_eq_none {n : Nat} : readCsr? n s = none ↔ 3 < n := by
  match n with
  | 0 | 1 | 2 | 3 => simp [readCsr?]
  | n + 4 => simp [readCsr?]

/-- How any command ends: an error, from the state before it, or a success from a state with the same control part, in
which `STICKY` is as before or, for `SYS.CLRERR`, 0. -/
theorem exec_ends (i : Instr) (s : State) :
    EndsFrom s (fun t => t.sticky = if i = .sysClrerr then 0 else s.sticky) (exec i s) := by
  cases i with
  | sysClrerr => exact .succeed (.setSticky _ _) (by rfl) _
  | sysRdcsr n =>
    simp only [exec, execSysRdcsr]
    cases readCsr? n.toNat s with
    | some v => exact .succeed (.refl _) (by rfl) _
    | none => exact .raise _ _
  | sysWrcsr n v =>
    simp only [exec, execSysWrcsr]
    exact .ite (fun _ => .succeed (.setPayLen _ _) (by rfl) _) fun _ =>
      .ite (fun _ => .succeed (.setStrLen _ _) (by rfl) _) fun _ => .raise _ _
  | payRd a =>
    simp only [exec, execPayRd]
    exact .ite (fun _ => .raise _ _) fun _ => .succeed (.refl _) (by rfl) _
  | payWr a b =>
    simp only [exec, execPayWr]
    exact .ite (fun _ => .raise _ _) fun _ => .ite (fun _ => .raise _ _) fun _ => .succeed (.setPay _ _) (by rfl) _
  | strRd i =>
    simp only [exec, execStrRd]
    exact .ite (fun _ => .raise _ _) fun _ => .succeed (.refl _) (by rfl) _
  | strWr i v =>
    simp only [exec, execStrWr]
    exact .ite (fun _ => .raise _ _) fun _ => .succeed (.setStr _ _) (by rfl) _
  | rbufRd i =>
    simp only [exec, execRbufRd]
    exact .ite (fun _ => .raise _ _) fun _ => .succeed (.refl _) (by rfl) _
  | colSetr n v | colSetg n v | colSetb n v | colSetrawr n v | colSetrawg n v | colSetrawb n v =>
    simp only [exec, execColSetr, execColSetg, execColSetb, execColSetrawr, execColSetrawg, execColSetrawb]
    exact withSlot_ends fun _ => .ite (fun _ => .raise _ _) fun _ => storeColor_ends (by rfl)
  | colGetr n | colGetg n | colGetb n | colGetrawr n | colGetrawg n | colGetrawb n | colGetraw n | colGethex n =>
    simp only [exec, execColGetr, execColGetg, execColGetb, execColGetrawr, execColGetrawg, execColGetrawb,
      execColGetraw, execColGethex]
    exact withSlot_ends fun _ => .succeed (.refl _) (by rfl) _
  | colSetraw n w =>
    simp only [exec, execColSetraw]
    exact withSlot_ends fun _ => storeColor_ends (by rfl)
  | palDec =>
    simp only [exec, execPalDec]
    exact withPayload_ends fun _ => .succeed (.setPal _ _) (by rfl) _
  | palEnc | chrEnc | grpEnc | scrEnc =>
    simp only [exec, execPalEnc, execChrEnc, execGrpEnc, execScrEnc]
    exact storePayload_ends (by rfl)
  | chrDec =>
    simp only [exec, execChrDec]
    exact withPayload_ends fun _ => .succeed (.setChr _ _) (by rfl) _
  | chrGet t x y =>
    simp only [exec, execChrGet]
    exact .ite (fun _ => .raise _ _) fun _ => .ite (fun _ => .raise _ _) fun _ => .ite (fun _ =>
      .raise _ _) fun _ => .ite (fun _ => .raise _ _) fun _ => .succeed (.refl _) (by rfl) _
  | chrSet t x y v =>
    simp only [exec, execChrSet]
    exact .ite (fun _ => .raise _ _) fun _ => .ite (fun _ => .raise _ _) fun _ => .ite (fun _ =>
      .raise _ _) fun _ => .ite (fun _ => .raise _ _) fun _ => .ite (fun _ => .raise _ _) fun _ => .succeed (.setChr _ _) (by rfl) _
  | chrResolve t p =>
    simp only [exec, execChrResolve]
    exact .ite (fun _ => .raise _ _) fun _ => .ite (fun _ => .raise _ _) fun _ => .succeed (.setRbuf _ _) (by rfl) _
  | grpDec =>
    simp only [exec, execGrpDec]
    exact withPayload_ends fun _ => .succeed (.setImg _ _) (by rfl) _
  | grpGet x y =>
    simp only [exec, execGrpGet]
    exact .ite (fun _ => .raise _ _) fun _ => .ite (fun _ => .raise _ _) fun _ => .succeed (.refl _) (by rfl) _
  | grpSet x y v =>
    simp only [exec, execGrpSet]
    exact .ite (fun _ => .raise _ _) fun _ => .ite (fun _ => .raise _ _) fun _ => .ite (fun _ =>
      .raise _ _) fun _ => .succeed (.setImg _ _) (by rfl) _
  | scrDec =>
    simp only [exec, execScrDec]
    exact withPayload_ends fun _ => .succeed (.setTmap _ _) (by rfl) _
  | scrGet x y | scrGetraw x y =>
    simp only [exec, execScrGet, execScrGetraw]
    exact withTile_ends fun _ => .succeed (.refl _) (by rfl) _
  | scrSetraw x y w =>
    simp only [exec, execScrSetraw]
    exact withTile_ends fun _ => storeTile_ends (by rfl)
  | scrSetchr x y v | scrSetpal x y v | scrSetflip x y v =>
    simp only [exec, execScrSetchr, execScrSetpal, execScrSetflip]
    exact withTile_ends fun _ => .ite (fun _ => .raise _ _) fun _ => storeTile_ends (by rfl)
  | memDec =>
    simp only [exec, execMemDec]
    refine withPayload_ends fun _ => .ite (fun _ => .raise _ _) fun _ => ?_
    generalize List.find? _ (List.range strCells) = bad
    cases bad with
    | some i => exact .raise _ _
    | none => exact .succeed ((SameControl.setStr _ _).trans (.setStrLen _ _)) (by rfl) _
  | memEnc =>
    simp only [exec, execMemEnc]
    refine .ite (fun _ => .raise _ _) fun _ => ?_
    generalize List.find? _ (List.range s.strLen.toNat) = bad
    cases bad with
    | some i => exact .raise _ _
    | none =>
      refine storePayload_ends ?_
      simp

/-- A word that the decoder rejects ends in an error (30_encoding.md R94, R95). -/
theorem raiseIllegal_ends (e : DecodeError) (s : State) : EndsFrom s P (raiseIllegal e s) := by
  cases e <;> exact .raise _ _

/-- What a step can do: nothing, with nothing on the port; end a command that was taken off the port; or reset. -/
theorem step_cases {s t : State} (h : step s = .next t) :
    (s.port = [] ∧ t = s) ∨
    (∃ w rest i, s.port = .command w :: rest ∧ decode w = .ok i ∧ exec i (s.setPort rest) = .next t) ∨
    (∃ w rest e, s.port = .command w :: rest ∧ decode w = .error e ∧ raiseIllegal e (s.setPort rest) = .next t) ∨
    (∃ d rest, (s.port = .reset d :: rest ∨ ∃ w, s.port = .resetDuring w d :: rest) ∧
      t = (s.setPort rest).afterReset d) := by
  rw [step] at h
  split at h
  · exact .inl ⟨‹_›, (Host.Outcome.next.inj h).symm⟩
  · next w rest hp =>
    split at h
    · exact .inr (.inl ⟨w, rest, _, hp, ‹_›, h⟩)
    · exact .inr (.inr (.inl ⟨w, rest, _, hp, ‹_›, h⟩))
  · next d rest hp => exact .inr (.inr (.inr ⟨d, rest, .inl hp, (Host.Outcome.next.inj h).symm⟩))
  · next w d rest hp => exact .inr (.inr (.inr ⟨d, rest, .inr ⟨w, hp⟩, (Host.Outcome.next.inj h).symm⟩))

end Sys2Proof.Machine
end

