-- ==== Sys2Proof/Laws/Index.lean ====
section
/-! SUPPORT. Laws/Index.lean: the index formulas of the block transforms undo each other (43_bitmap.md R172, 44_tilemap.md
R192, 42_charbank.md R150). -/

namespace Sys2Proof.Machine

theorem grpPayloadIndex_grpDst {l k j i y x : Nat} (hk : k < 4) (hj : j < 8) (hi : i < 8) (hy : y < 8) (hx : x < 8) :
    grpPayloadIndex (grpDst l k j i y x) = grpSrc l k j i y x := by
  simp only [grpPayloadIndex, grpDst, grpSrc]; omega

theorem grpRasterIndex_grpSrc {l k j i y x : Nat} (hk : k < 4) (hj : j < 8) (hi : i < 8) (hy : y < 8) (hx : x < 8) :
    grpRasterIndex (grpSrc l k j i y x) = grpDst l k j i y x := by
  simp only [grpRasterIndex, grpDst, grpSrc]; omega

theorem grpRasterIndex_grpPayloadIndex (d : Nat) : grpRasterIndex (grpPayloadIndex d) = d := by
  rw [grpPayloadIndex, grpRasterIndex_grpSrc (by omega) (by omega) (by omega) (by omega) (by omega)]
  simp only [grpDst]; omega

theorem grpPayloadIndex_grpRasterIndex (a : Nat) : grpPayloadIndex (grpRasterIndex a) = a := by
  rw [grpRasterIndex, grpPayloadIndex_grpDst (by omega) (by omega) (by omega) (by omega) (by omega)]
  simp only [grpSrc]; omega

theorem grpPayloadIndex_lt {d : Nat} (h : d < 49152) : grpPayloadIndex d < 49152 := by
  simp only [grpPayloadIndex, grpSrc]; omega

theorem grpRasterIndex_lt {a : Nat} (h : a < 49152) : grpRasterIndex a < 49152 := by
  simp only [grpRasterIndex, grpDst]; omega

theorem scrOffset_scrDst {j i y x : Nat} (hi : i < 2) (hy : y < 32) (hx : x < 32) :
    scrOffset (scrDst j i y x) = scrSrc j i y x := by
  simp only [scrOffset, scrDst, scrSrc]; omega

/-- Both bytes of a tile word belong to its slot. -/
theorem scrSlot_scrSrc {j i y x h : Nat} (hi : i < 2) (hy : y < 32) (hx : x < 32) (hh : h < 2) :
    scrSlot (scrSrc j i y x + h) = scrDst j i y x := by
  simp only [scrSlot, scrDst, scrSrc]; omega

theorem scrSlot_scrOffset (s : Nat) {h : Nat} (hh : h < 2) : scrSlot (scrOffset s + h) = s := by
  rw [scrOffset, scrSlot_scrSrc (by omega) (by omega) (by omega) hh]
  simp only [scrDst]; omega

/-- A payload byte is the low or the high byte of its slot's tile word. -/
theorem scrOffset_scrSlot (a : Nat) : scrOffset (scrSlot a) + a % 2 = a := by
  rw [scrSlot, scrOffset_scrDst (by omega) (by omega) (by omega)]
  simp only [scrSrc]; omega

theorem scrOffset_lt {d : Nat} (h : d < 4096) : scrOffset d + 1 < 8192 := by
  simp only [scrOffset, scrSrc]; omega

theorem scrOffset_even (d : Nat) : scrOffset d % 2 = 0 := by
  simp only [scrOffset, scrSrc]; omega

theorem scrSlot_lt {a : Nat} (h : a < 8192) : scrSlot a < 4096 := by
  simp only [scrSlot, scrDst]; omega

theorem chrByte_chrNibbleKey (a : Nat) {h : Nat} (hh : h < 2) : chrByte (chrNibbleKey a h) = a := by
  simp only [chrByte, chrNibbleKey, chrKey]; omega

theorem chrNibbleKey_mod (a : Nat) {h : Nat} (hh : h < 2) : chrNibbleKey a h % 2 = h := by
  simp only [chrNibbleKey, chrKey]; omega

theorem chrNibbleKey_chrByte (k : Nat) : chrNibbleKey (chrByte k) (k % 2) = k := by
  simp only [chrByte, chrNibbleKey, chrKey]; omega

theorem chrByte_lt {k : Nat} (h : k < 16384) : chrByte k < 8192 := by
  simp only [chrByte]; omega

theorem chrNibbleKey_lt {a h : Nat} (ha : a < 8192) (hh : h < 2) : chrNibbleKey a h < 16384 := by
  simp only [chrNibbleKey, chrKey]; omega

/-- The byte and nibble of cells `2m` and `2m + 1` of tile `t` (42_charbank.md R150). -/
theorem chrByte_chrKey {t m h : Nat} (hh : h < 2) :
    chrByte (chrKey t (2 * m + h)) = 32 * t + m ∧ chrKey t (2 * m + h) % 2 = h := by
  simp only [chrByte, chrKey]; omega

theorem chrNibbleKey_byte {t m : Nat} (_ : m < 32) (h : Nat) :
    chrNibbleKey (32 * t + m) h = chrKey t (2 * m + h) := by
  simp only [chrNibbleKey, chrKey]; omega

end Sys2Proof.Machine
end

