-- ==== Sys2Proof/Laws/Quantizer.lean ====
section
/-! SUPPORT. Laws/Quantizer.lean: the quantizer, the colour word and the tile word (40_color.md R112, R117; 44_tilemap.md
R195). -/

namespace Sys2Proof.Machine

/-- The quantizer keeps the raw channel (40_color.md R112 (b)). -/
theorem q5_raw : ∀ v : BitVec 8, q5 v >>> 3 = v >>> 3 := by decide +kernel

/-- The quantizer keeps the raw channel (40_color.md R112 (b)). -/
theorem q6_raw : ∀ v : BitVec 8, q6 v >>> 2 = v >>> 2 := by decide +kernel

/-- 40_color.md R112 (c). -/
theorem q5_idempotent : ∀ v : BitVec 8, q5 (q5 v) = q5 v := by decide +kernel

/-- 40_color.md R112 (c). -/
theorem q6_idempotent : ∀ v : BitVec 8, q6 (q6 v) = q6 v := by decide +kernel

/-- The raw value of a stored raw 5-bit value (40_color.md R117). -/
theorem storeRaw5_raw : ∀ v : BitVec 5, (storeRaw5 v >>> 3).setWidth 5 = v := by decide +kernel

/-- The raw value of a stored raw 6-bit value (40_color.md R117). -/
theorem storeRaw6_raw : ∀ v : BitVec 6, (storeRaw6 v >>> 2).setWidth 6 = v := by decide +kernel

/-- A stored channel is determined by its raw value (40_color.md R112 (d)). -/
theorem storeRaw5_of_q5 : ∀ v : BitVec 8, storeRaw5 ((q5 v >>> 3).setWidth 5) = q5 v := by decide +kernel

/-- A stored channel is determined by its raw value (40_color.md R112 (d)). -/
theorem storeRaw6_of_q6 : ∀ v : BitVec 8, storeRaw6 ((q6 v >>> 2).setWidth 6) = q6 v := by decide +kernel

theorem inQ5Image_storeRaw5 (v : BitVec 5) : InQ5Image (storeRaw5 v) := ⟨_, rfl⟩

theorem inQ6Image_storeRaw6 (v : BitVec 6) : InQ6Image (storeRaw6 v) := ⟨_, rfl⟩

/-- Every unpacked colour is quantized (10_state.md R33 (a)). -/
theorem fromRaw_quantized (w : BitVec 16) : (fromRaw w).Quantized :=
  ⟨inQ5Image_storeRaw5 _, inQ6Image_storeRaw6 _, inQ5Image_storeRaw5 _⟩

/-- The colour an unlisted cell reads as is quantized (10_state.md R33 (a)). -/
theorem unlisted_quantized : (Memory.unlisted : Color).Quantized :=
  ⟨⟨0, by decide⟩, ⟨0, by decide⟩, ⟨0, by decide⟩⟩

@[simp] theorem rawR_fromRaw (w : BitVec 16) : rawR (fromRaw w) = wordRed w := storeRaw5_raw _

@[simp] theorem rawG_fromRaw (w : BitVec 16) : rawG (fromRaw w) = wordGreen w := storeRaw6_raw _

@[simp] theorem rawB_fromRaw (w : BitVec 16) : rawB (fromRaw w) = wordBlue w := storeRaw5_raw _

/-- The packed word's red field (40_color.md R114). -/
theorem wordRed_packRaw (c : Color) : wordRed (packRaw c) = rawR c := by
  simp only [wordRed, packRaw]
  generalize rawR c = r, rawG c = g, rawB c = b
  ext i hi
  interval_cases i <;> simp [BitVec.getElem_extractLsb']

/-- The packed word's green field (40_color.md R114). -/
theorem wordGreen_packRaw (c : Color) : wordGreen (packRaw c) = rawG c := by
  simp only [wordGreen, packRaw]
  generalize rawR c = r, rawG c = g, rawB c = b
  ext i hi
  interval_cases i <;> simp

/-- The packed word's blue field (40_color.md R114). -/
theorem wordBlue_packRaw (c : Color) : wordBlue (packRaw c) = rawB c := by
  simp only [wordBlue, packRaw]
  generalize rawR c = r, rawG c = g, rawB c = b
  ext i hi
  interval_cases i <;> simp [BitVec.getElem_extractLsb']

end Sys2Proof.Machine
end

