-- ==== Sys2Proof/Laws/Invariant.lean ====
section
/-! SUPPORT. Laws/Invariant.lean: what keeps buffer contents legal (10_state.md R33). -/

namespace Sys2Proof.Machine

variable {s : State}

theorem quantized_write {m : Memory Color} (h : ∀ n, (Memory.read m n).Quantized) (a : Nat) {c : Color}
    (hc : c.Quantized) (n : Nat) : (Memory.read (Memory.write m a c) n).Quantized := by
  rw [Memory.read_write]
  split
  · exact hc
  · exact h n

theorem quantized_fill {n : Nat} {cs : List Nat} {f : Nat → Color} {m : Memory Color} (hf : ∀ k, (f k).Quantized)
    (hm : ∀ k, (Memory.read m k).Quantized) (a : Nat) : (Memory.read (Memory.fill n cs f m) a).Quantized := by
  rw [Memory.fill, Memory.read_foldr_write, Memory.read_filter_keys m (fun k => decide (n ≤ k)) a]
  split
  · exact hf a
  · split
    · exact hm a
    · exact unlisted_quantized

theorem BufferContents.Legal.setPay (h : s.contents.Legal) {m} (hm : Memory.wf payCells m = true) :
    (s.setPay m).contents.Legal :=
  ⟨hm, h.img, h.pal, h.chr, h.tmap, h.str, h.rbuf, h.palQuantized, h.rbufQuantized⟩

theorem BufferContents.Legal.setImg (h : s.contents.Legal) {m} (hm : Memory.wf imgCells m = true) :
    (s.setImg m).contents.Legal :=
  ⟨h.pay, hm, h.pal, h.chr, h.tmap, h.str, h.rbuf, h.palQuantized, h.rbufQuantized⟩

theorem BufferContents.Legal.setPal (h : s.contents.Legal) {m} (hm : Memory.wf palCells m = true)
    (hq : ∀ n, (Memory.read m n).Quantized) : (s.setPal m).contents.Legal :=
  ⟨h.pay, h.img, hm, h.chr, h.tmap, h.str, h.rbuf, hq, h.rbufQuantized⟩

theorem BufferContents.Legal.setChr (h : s.contents.Legal) {m} (hm : Memory.wf chrCells m = true) :
    (s.setChr m).contents.Legal :=
  ⟨h.pay, h.img, h.pal, hm, h.tmap, h.str, h.rbuf, h.palQuantized, h.rbufQuantized⟩

theorem BufferContents.Legal.setTmap (h : s.contents.Legal) {m} (hm : Memory.wf tmapCells m = true) :
    (s.setTmap m).contents.Legal :=
  ⟨h.pay, h.img, h.pal, h.chr, hm, h.str, h.rbuf, h.palQuantized, h.rbufQuantized⟩

theorem BufferContents.Legal.setStr (h : s.contents.Legal) {m} (hm : Memory.wf strCells m = true) :
    (s.setStr m).contents.Legal :=
  ⟨h.pay, h.img, h.pal, h.chr, h.tmap, hm, h.rbuf, h.palQuantized, h.rbufQuantized⟩

theorem BufferContents.Legal.setRbuf (h : s.contents.Legal) {m} (hm : Memory.wf rbufCells m = true)
    (hq : ∀ n, (Memory.read m n).Quantized) : (s.setRbuf m).contents.Legal :=
  ⟨h.pay, h.img, h.pal, h.chr, h.tmap, h.str, hm, h.palQuantized, hq⟩

end Sys2Proof.Machine
end

