-- ==== Sys2Proof/Laws/Payload.lean ====
section
/-! SUPPORT. Laws/Payload.lean: little-endian payload fields (20_memory.md R61, R62), and which cells of a payload or of a
buffer can be other than zero. -/

namespace Sys2Proof.Machine

@[simp] theorem unlisted_bitVec (n : Nat) : (Memory.unlisted : BitVec n) = 0#n := rfl

@[simp] theorem unlisted_color : (Memory.unlisted : Color) = ⟨0#8, 0#8, 0#8⟩ := rfl

@[simp] theorem unlisted_tile : (Memory.unlisted : Tile) = ⟨0#10, 0#10, false, false⟩ := rfl

/-- The 16-bit field that a decoder reads is the little-endian one (20_memory.md R61). -/
theorem payWord_eq_field16 (s : State) (a : Nat) : s.payWord a = field16 s.pay a := by
  simp [State.payWord, field16, leRead]

/-- The length field that `MEM.DEC` reads is the little-endian one (20_memory.md R61). -/
theorem memLength_eq_lengthField (s : State) : memLength s = lengthField s.pay := by
  simp only [memLength, lengthField, leRead, Nat.reduceAdd]; omega

/-- The low byte of a 16-bit field (20_memory.md R62). -/
theorem leByte_low (w : BitVec 16) : leByte w.toNat 0 = w.extractLsb' 0 8 := by
  apply BitVec.eq_of_toNat_eq; simp [leByte]

/-- The high byte of a 16-bit field (20_memory.md R62). -/
theorem leByte_high (w : BitVec 16) : leByte w.toNat 1 = w.extractLsb' 8 8 := by
  apply BitVec.eq_of_toNat_eq; simp [leByte, Nat.shiftRight_eq_div_pow]

/-- A field whose two bytes are a word's low and high byte holds the word (20_memory.md R62). -/
theorem field16_eq {m : Memory (BitVec 8)} {a : Nat} {w : BitVec 16} (h0 : Memory.read m a = w.extractLsb' 0 8)
    (h1 : Memory.read m (a + 1) = w.extractLsb' 8 8) : field16 m a = w := by
  apply BitVec.eq_of_toNat_eq
  have := w.isLt
  simp only [field16, h0, h1, BitVec.extractLsb'_toNat, BitVec.toNat_ofNat, Nat.shiftRight_eq_div_pow]
  omega

/-- The two bytes of a field (20_memory.md R62). -/
theorem extract_field16 (m : Memory (BitVec 8)) (a : Nat) :
    (field16 m a).extractLsb' 0 8 = Memory.read m a ∧ (field16 m a).extractLsb' 8 8 = Memory.read m (a + 1) := by
  have h0 := (Memory.read m a).isLt
  have h1 := (Memory.read m (a + 1)).isLt
  constructor <;> apply BitVec.eq_of_toNat_eq <;>
    simp only [field16, BitVec.extractLsb'_toNat, BitVec.toNat_ofNat, Nat.shiftRight_eq_div_pow] <;> omega

/-- A field that is not zero has a listed byte. -/
theorem mem_keys_of_field16_ne {m : Memory (BitVec 8)} {a : Nat} (h : field16 m a ≠ 0) :
    a ∈ Memory.keys m ∨ a + 1 ∈ Memory.keys m := by
  by_contra hk
  rw [not_or] at hk
  apply h
  simp [field16, Memory.read_of_not_mem_keys hk.1, Memory.read_of_not_mem_keys hk.2]

theorem fromRaw_zero : fromRaw 0 = Memory.unlisted := by decide

theorem packRaw_unlisted : packRaw Memory.unlisted = 0 := by decide

theorem leByte_zero (k : Nat) : leByte 0 k = 0 := by simp [leByte]

end Sys2Proof.Machine
end

