-- ==== Sys2Proof/Laws/PerInstr.lean ====
section
/-! SUPPORT. Laws/PerInstr.lean: the per-instruction family `Encoding`: the encoder's word of a command has a listed opcode
and zero unused fields (30_encoding.md R93, R94, R97). -/

namespace Sys2Proof.Laws

/-- The command's word is one that selects a command (30_encoding.md R97). -/
def Encoding.Statement (i : Instr) : Prop := (encode i).wf = true

theorem Encoding.sysClrerr : Encoding.Statement .sysClrerr := wf_commandWord 0 rfl (by simp [unusedFieldsZero])
theorem Encoding.sysRdcsr (n : Operand) : Encoding.Statement (.sysRdcsr n) := wf_commandWord 1 rfl (by simp [unusedFieldsZero])
theorem Encoding.sysWrcsr (n v : Operand) : Encoding.Statement (.sysWrcsr n v) := wf_commandWord 2 rfl (by simp [unusedFieldsZero])
theorem Encoding.payRd (a : Operand) : Encoding.Statement (.payRd a) := wf_commandWord 1 rfl (by simp [unusedFieldsZero])
theorem Encoding.payWr (a b : Operand) : Encoding.Statement (.payWr a b) := wf_commandWord 2 rfl (by simp [unusedFieldsZero])
theorem Encoding.strRd (i : Operand) : Encoding.Statement (.strRd i) := wf_commandWord 1 rfl (by simp [unusedFieldsZero])
theorem Encoding.strWr (i v : Operand) : Encoding.Statement (.strWr i v) := wf_commandWord 2 rfl (by simp [unusedFieldsZero])
theorem Encoding.rbufRd (i : Operand) : Encoding.Statement (.rbufRd i) := wf_commandWord 1 rfl (by simp [unusedFieldsZero])
theorem Encoding.colSetr (n v : Operand) : Encoding.Statement (.colSetr n v) := wf_commandWord 2 rfl (by simp [unusedFieldsZero])
theorem Encoding.colSetg (n v : Operand) : Encoding.Statement (.colSetg n v) := wf_commandWord 2 rfl (by simp [unusedFieldsZero])
theorem Encoding.colSetb (n v : Operand) : Encoding.Statement (.colSetb n v) := wf_commandWord 2 rfl (by simp [unusedFieldsZero])
theorem Encoding.colGetr (n : Operand) : Encoding.Statement (.colGetr n) := wf_commandWord 1 rfl (by simp [unusedFieldsZero])
theorem Encoding.colGetg (n : Operand) : Encoding.Statement (.colGetg n) := wf_commandWord 1 rfl (by simp [unusedFieldsZero])
theorem Encoding.colGetb (n : Operand) : Encoding.Statement (.colGetb n) := wf_commandWord 1 rfl (by simp [unusedFieldsZero])
theorem Encoding.colSetrawr (n v : Operand) : Encoding.Statement (.colSetrawr n v) := wf_commandWord 2 rfl (by simp [unusedFieldsZero])
theorem Encoding.colSetrawg (n v : Operand) : Encoding.Statement (.colSetrawg n v) := wf_commandWord 2 rfl (by simp [unusedFieldsZero])
theorem Encoding.colSetrawb (n v : Operand) : Encoding.Statement (.colSetrawb n v) := wf_commandWord 2 rfl (by simp [unusedFieldsZero])
theorem Encoding.colGetrawr (n : Operand) : Encoding.Statement (.colGetrawr n) := wf_commandWord 1 rfl (by simp [unusedFieldsZero])
theorem Encoding.colGetrawg (n : Operand) : Encoding.Statement (.colGetrawg n) := wf_commandWord 1 rfl (by simp [unusedFieldsZero])
theorem Encoding.colGetrawb (n : Operand) : Encoding.Statement (.colGetrawb n) := wf_commandWord 1 rfl (by simp [unusedFieldsZero])
theorem Encoding.colSetraw (n w : Operand) : Encoding.Statement (.colSetraw n w) := wf_commandWord 2 rfl (by simp [unusedFieldsZero])
theorem Encoding.colGetraw (n : Operand) : Encoding.Statement (.colGetraw n) := wf_commandWord 1 rfl (by simp [unusedFieldsZero])
theorem Encoding.colGethex (n : Operand) : Encoding.Statement (.colGethex n) := wf_commandWord 1 rfl (by simp [unusedFieldsZero])
theorem Encoding.palDec : Encoding.Statement .palDec := wf_commandWord 0 rfl (by simp [unusedFieldsZero])
theorem Encoding.palEnc : Encoding.Statement .palEnc := wf_commandWord 0 rfl (by simp [unusedFieldsZero])
theorem Encoding.chrDec : Encoding.Statement .chrDec := wf_commandWord 0 rfl (by simp [unusedFieldsZero])
theorem Encoding.chrEnc : Encoding.Statement .chrEnc := wf_commandWord 0 rfl (by simp [unusedFieldsZero])
theorem Encoding.chrGet (t x y : Operand) : Encoding.Statement (.chrGet t x y) := wf_commandWord 3 rfl (by simp [unusedFieldsZero])
theorem Encoding.chrSet (t x y v : Operand) : Encoding.Statement (.chrSet t x y v) := wf_commandWord 4 rfl (by simp [unusedFieldsZero])
theorem Encoding.chrResolve (t p : Operand) : Encoding.Statement (.chrResolve t p) := wf_commandWord 2 rfl (by simp [unusedFieldsZero])
theorem Encoding.grpDec : Encoding.Statement .grpDec := wf_commandWord 0 rfl (by simp [unusedFieldsZero])
theorem Encoding.grpEnc : Encoding.Statement .grpEnc := wf_commandWord 0 rfl (by simp [unusedFieldsZero])
theorem Encoding.grpGet (x y : Operand) : Encoding.Statement (.grpGet x y) := wf_commandWord 2 rfl (by simp [unusedFieldsZero])
theorem Encoding.grpSet (x y v : Operand) : Encoding.Statement (.grpSet x y v) := wf_commandWord 3 rfl (by simp [unusedFieldsZero])
theorem Encoding.scrDec : Encoding.Statement .scrDec := wf_commandWord 0 rfl (by simp [unusedFieldsZero])
theorem Encoding.scrEnc : Encoding.Statement .scrEnc := wf_commandWord 0 rfl (by simp [unusedFieldsZero])
theorem Encoding.scrGet (x y : Operand) : Encoding.Statement (.scrGet x y) := wf_commandWord 2 rfl (by simp [unusedFieldsZero])
theorem Encoding.scrGetraw (x y : Operand) : Encoding.Statement (.scrGetraw x y) := wf_commandWord 2 rfl (by simp [unusedFieldsZero])
theorem Encoding.scrSetraw (x y w : Operand) : Encoding.Statement (.scrSetraw x y w) := wf_commandWord 3 rfl (by simp [unusedFieldsZero])
theorem Encoding.scrSetchr (x y v : Operand) : Encoding.Statement (.scrSetchr x y v) := wf_commandWord 3 rfl (by simp [unusedFieldsZero])
theorem Encoding.scrSetpal (x y v : Operand) : Encoding.Statement (.scrSetpal x y v) := wf_commandWord 3 rfl (by simp [unusedFieldsZero])
theorem Encoding.scrSetflip (x y f : Operand) : Encoding.Statement (.scrSetflip x y f) := wf_commandWord 3 rfl (by simp [unusedFieldsZero])
theorem Encoding.memDec : Encoding.Statement .memDec := wf_commandWord 0 rfl (by simp [unusedFieldsZero])
theorem Encoding.memEnc : Encoding.Statement .memEnc := wf_commandWord 0 rfl (by simp [unusedFieldsZero])

end Sys2Proof.Laws
end

