-- ==== Sys2Proof/Laws/Pipelines.lean ====
section
/-! SUPPORT. Laws/Pipelines.lean: what each bulk command's fill leaves in each cell. The candidate lists of the model name
every cell that can be other than what an unlisted cell reads as, so no cell is missed (assumption 11). -/

namespace Sys2Proof.Machine

/-- `PAL.DEC` (41_palette.md R141). -/
theorem read_palDec (s : State) (p : Memory Color) (n : Nat) :
    Memory.read (Memory.fill palCells ((Memory.keys s.pay).map (· / 2)) (fun n => fromRaw (s.payWord (2 * n))) p) n =
      if n < 256 then fromRaw (field16 s.pay (2 * n)) else Memory.read p n := by
  rw [Memory.read_fill]
  · simp only [payWord_eq_field16]; rfl
  · intro k _ hne
    rw [payWord_eq_field16] at hne
    have : field16 s.pay (2 * k) ≠ 0 := fun h => hne (by rw [h, fromRaw_zero])
    rw [List.mem_map]
    rcases mem_keys_of_field16_ne this with h | h
    · exact ⟨_, h, by omega⟩
    · exact ⟨_, h, by omega⟩

/-- `PAL.ENC` (41_palette.md R142). -/
theorem read_palEnc (s : State) (p : Memory (BitVec 8)) (a : Nat) :
    Memory.read (Memory.fill palSize ((Memory.keys s.pal).flatMap (fun n => [2 * n, 2 * n + 1]))
        (palPayloadByte s) p) a = if a < 512 then palPayloadByte s a else Memory.read p a := by
  rw [Memory.read_fill]
  · rfl
  · intro k _ hne
    have : Memory.read s.pal (k / 2) ≠ Memory.unlisted := fun h =>
      hne (by rw [palPayloadByte, h, packRaw_unlisted]; exact leByte_zero _)
    rw [List.mem_flatMap]
    refine ⟨_, Memory.mem_keys_of_read_ne this, ?_⟩
    simp; omega

/-- `CHR.DEC` (42_charbank.md R151). -/
theorem read_chrDec (s : State) (p : Memory (BitVec 4)) (k : Nat) :
    Memory.read (Memory.fill chrCells ((Memory.keys s.pay).flatMap (fun a => [chrNibbleKey a 0, chrNibbleKey a 1]))
        (chrCellOfPayload s) p) k =
      if k < 16384 then nibble (Memory.read s.pay (chrByte k)) (k % 2) else Memory.read p k := by
  rw [Memory.read_fill]
  · rfl
  · intro k _ hne
    have : Memory.read s.pay (chrByte k) ≠ Memory.unlisted := fun h =>
      hne (by rw [chrCellOfPayload, h, nibble]; split <;> decide)
    rw [List.mem_flatMap]
    refine ⟨_, Memory.mem_keys_of_read_ne this, ?_⟩
    have h := chrNibbleKey_chrByte k
    rcases Nat.mod_two_eq_zero_or_one k with h' | h' <;> rw [h'] at h <;> simp [h]

/-- `CHR.ENC` (42_charbank.md R152). -/
theorem read_chrEnc (s : State) (p : Memory (BitVec 8)) (a : Nat) :
    Memory.read (Memory.fill chrSize ((Memory.keys s.chr).map chrByte) (chrPayloadByte s) p) a =
      if a < 8192 then chrPayloadByte s a else Memory.read p a := by
  rw [Memory.read_fill]
  · rfl
  · intro k _ hne
    rw [List.mem_map]
    by_cases h0 : Memory.read s.chr (chrNibbleKey k 0) = Memory.unlisted
    · by_cases h1 : Memory.read s.chr (chrNibbleKey k 1) = Memory.unlisted
      · exact absurd (by rw [chrPayloadByte, h0, h1]; rfl) hne
      · exact ⟨_, Memory.mem_keys_of_read_ne h1, chrByte_chrNibbleKey _ (by omega)⟩
    · exact ⟨_, Memory.mem_keys_of_read_ne h0, chrByte_chrNibbleKey _ (by omega)⟩

/-- `GRP.DEC` (43_bitmap.md R174). -/
theorem read_grpDec (s : State) (p : Memory (BitVec 8)) (d : Nat) :
    Memory.read (Memory.fill imgCells ((Memory.keys s.pay).map grpRasterIndex)
        (fun d => Memory.read s.pay (grpPayloadIndex d)) p) d =
      if d < 49152 then Memory.read s.pay (grpPayloadIndex d) else Memory.read p d := by
  rw [Memory.read_fill]
  · rfl
  · intro k _ hne
    exact List.mem_map.mpr ⟨_, Memory.mem_keys_of_read_ne hne, grpRasterIndex_grpPayloadIndex _⟩

/-- `GRP.ENC` (43_bitmap.md R175). -/
theorem read_grpEnc (s : State) (p : Memory (BitVec 8)) (a : Nat) :
    Memory.read (Memory.fill grpSize ((Memory.keys s.img).map grpPayloadIndex)
        (fun a => Memory.read s.img (grpRasterIndex a)) p) a =
      if a < 49152 then Memory.read s.img (grpRasterIndex a) else Memory.read p a := by
  rw [Memory.read_fill]
  · rfl
  · intro k _ hne
    exact List.mem_map.mpr ⟨_, Memory.mem_keys_of_read_ne hne, grpPayloadIndex_grpRasterIndex _⟩

theorem tileFromRaw_zero {cfg : Config} (h : cfg.wf = true) : tileFromRaw cfg 0 = Memory.unlisted := by
  simp only [Config.wf, Config.flipBitsLegal, Bool.and_eq_true, Bool.or_eq_true, beq_iff_eq] at h
  obtain ⟨⟨-, h1, h2⟩, -⟩ := h
  rcases h1 with h1 | h1 <;> rcases h2 with h2 | h2 <;> simp [tileFromRaw, flipFlag, h1, h2]

theorem tileToRaw_unlisted (cfg : Config) : tileToRaw cfg Memory.unlisted = 0 := by
  simp [tileToRaw, flagWord]

/-- `SCR.DEC` in a legal configuration (44_tilemap.md R196; assumption 12). -/
theorem read_scrDec (s : State) (hw : s.cfg.wf = true) (p : Memory Tile) (d : Nat) :
    Memory.read (Memory.fill tmapCells ((Memory.keys s.pay).map scrSlot)
        (fun d => tileFromRaw s.cfg (s.payWord (scrOffset d))) p) d =
      if d < 4096 then tileFromRaw s.cfg (field16 s.pay (scrOffset d)) else Memory.read p d := by
  rw [Memory.read_fill]
  · simp only [payWord_eq_field16]; rfl
  · intro k _ hne
    rw [payWord_eq_field16] at hne
    have : field16 s.pay (scrOffset k) ≠ 0 := fun h0 => hne (by rw [h0, tileFromRaw_zero hw])
    rw [List.mem_map]
    rcases mem_keys_of_field16_ne this with h | h
    · exact ⟨_, h, by simpa using scrSlot_scrOffset k (h := 0) (by omega)⟩
    · exact ⟨_, h, scrSlot_scrOffset k (h := 1) (by omega)⟩

/-- `SCR.ENC` (44_tilemap.md R197). -/
theorem read_scrEnc (s : State) (p : Memory (BitVec 8)) (a : Nat) :
    Memory.read (Memory.fill scrSize ((Memory.keys s.tmap).flatMap (fun d => [scrOffset d, scrOffset d + 1]))
        (scrPayloadByte s) p) a = if a < 8192 then scrPayloadByte s a else Memory.read p a := by
  rw [Memory.read_fill]
  · rfl
  · intro k _ hne
    have : Memory.read s.tmap (scrSlot k) ≠ Memory.unlisted := fun h =>
      hne (by rw [scrPayloadByte, h, tileToRaw_unlisted]; exact leByte_zero _)
    rw [List.mem_flatMap]
    refine ⟨_, Memory.mem_keys_of_read_ne this, ?_⟩
    have := scrOffset_scrSlot k
    simp; omega

/-- A fill whose candidates are all its cells. -/
theorem read_fill_range {α : Type} [Inhabited α] [DecidableEq α] (n : Nat) (f : Nat → α) (m : Memory α) (a : Nat) :
    Memory.read (Memory.fill n (List.range n) f m) a = if a < n then f a else Memory.read m a :=
  Memory.read_fill (fun _ hk _ => List.mem_range.mpr hk) _ _

end Sys2Proof.Machine
end

