-- ==== Sys2Proof/Laws/Shared.lean ====
section
/-! SUPPORT. Laws/Shared.lean: what each operation shared by a family of commands does, in each of its cases. -/

namespace Sys2Proof.Machine

/-- An error, in the spec's numbers (60_exceptions.md R261, R262, R270). -/
theorem raise_failsWith_of {c : Cause} (info : BitVec 16) (s : State) {n : Nat} {k : BitVec 8}
    (hn : c.errorClass.number = n) (hk : c.number = k) : FailsWith (raise c info s) s n k info :=
  hn ▸ hk ▸ raise_failsWith c info s

/-- The slot check fails (40_color.md R133). -/
theorem withSlot_fails {n : Operand} (s : State) (k) (h : 255 < n.toNat) : FailsWith (withSlot n s k) s 2 0x20 n := by
  rw [withSlot, if_pos h]; exact raise_failsWith_of _ _ rfl rfl

/-- The slot check passes (40_color.md R133). -/
theorem withSlot_of_le {n : Operand} (s : State) (k) (h : n.toNat ≤ 255) :
    withSlot n s k = k (Memory.read s.pal n.toNat) := by
  rw [withSlot, if_neg (by omega)]

/-- A colour is stored: its slot holds it, the others are unchanged. -/
theorem storeColor_succeeds (n : Operand) (c : Color) (s : State) :
    ∃ m, SucceedsWith (storeColor n c s) { s with pal := m } 0 ∧ Memory.read m n.toNat = c ∧
      ∀ k, k ≠ n.toNat → Memory.read m k = Memory.read s.pal k :=
  ⟨_, rfl, Memory.read_write_same _ _ _, fun _ hk => Memory.read_write_other _ _ hk⟩

/-- The payload length check fails (20_memory.md R66). -/
theorem withPayload_fails {n : Nat} {s : State} (k) (h : s.payLen.toNat ≠ n) :
    FailsWith (withPayload n s k) s 1 0x01 s.payLen := by
  rw [withPayload, if_pos h]; exact raise_failsWith_of _ _ rfl rfl

/-- The payload length check passes (20_memory.md R66). -/
theorem withPayload_of_eq {n : Nat} {s : State} (k) (h : s.payLen.toNat = n) : withPayload n s k = k := by
  rw [withPayload, if_neg (not_not.mpr h)]

/-- A payload is stored (20_memory.md R67). -/
theorem storePayload_succeeds (n : Nat) (cs : List Nat) (f : Nat → BitVec 8) (s : State) :
    SucceedsWith (storePayload n cs f s)
      { s with pay := Memory.fill n cs f s.pay, payLen := BitVec.ofNat 16 n } 0 := rfl

/-- The first coordinate check fails (44_tilemap.md R204). -/
theorem withTile_fails_x {x : Operand} (y : Operand) (s : State) (k) (h : 63 < x.toNat) :
    FailsWith (withTile x y s k) s 2 0x60 x := by
  rw [withTile, if_pos h]; exact raise_failsWith_of _ _ rfl rfl

/-- The second coordinate check fails (44_tilemap.md R204). -/
theorem withTile_fails_y {x y : Operand} (s : State) (k) (hx : ¬63 < x.toNat) (h : 63 < y.toNat) :
    FailsWith (withTile x y s k) s 2 0x61 y := by
  rw [withTile, if_neg hx, if_pos h]; exact raise_failsWith_of _ _ rfl rfl

/-- Both coordinate checks pass (44_tilemap.md R204). -/
theorem withTile_of_le {x y : Operand} (s : State) (k) (hx : ¬63 < x.toNat) (hy : ¬63 < y.toNat) :
    withTile x y s k = k (y.toNat * 64 + x.toNat) := by
  rw [withTile, if_neg hx, if_neg hy]; rfl

/-- A tile is stored: its slot holds it, the others are unchanged. -/
theorem storeTile_succeeds (slot : Nat) (t : Tile) (s : State) :
    ∃ m, SucceedsWith (storeTile slot t s) { s with tmap := m } 0 ∧ Memory.read m slot = t ∧
      ∀ k, k ≠ slot → Memory.read m k = Memory.read s.tmap k :=
  ⟨_, rfl, Memory.read_write_same _ _ _, fun _ hk => Memory.read_write_other _ _ hk⟩

end Sys2Proof.Machine
end

