-- ==== Sys2Proof/Laws/Table.lean ====
section
/-! SUPPORT. Laws/Table.lean: the translation table and its inverse (45_stringslot.md R221). -/

namespace Sys2Proof.Machine

variable {cfg : Config}

theorem toList_tableOf (f : Nat → BitVec 16) : (Config.tableOf f).toList = (List.range 256).map f := by
  simp [Config.tableOf]

/-- The entries of the open table all differ (45_stringslot.md R221; assumption 7). -/
theorem instantiated_table_nodup : Config.instantiated.strTable.toList.Nodup := by
  show (Config.tableOf _).toList.Nodup
  rw [toList_tableOf, List.nodup_map_iff_inj_on List.nodup_range]
  intro x hx y hy h
  rw [List.mem_range] at hx hy
  have := congrArg BitVec.toNat (Config.openCodes.injective h)
  simp at this; omega

theorem byteToCode_eq_getElem (cfg : Config) (b : BitVec 8) :
    byteToCode cfg b = cfg.strTable.toList[b.toNat]'(by simpa using b.isLt) := by
  simp [byteToCode]

/-- The byte found has the code looked up (45_stringslot.md R221). -/
theorem byteToCode_of_codeToByte {code : BitVec 16} {b : BitVec 8} (h : codeToByte cfg code = some b) :
    byteToCode cfg b = code := by
  rw [codeToByte, Option.map_eq_some_iff] at h
  obtain ⟨i, hi, rfl⟩ := h
  obtain ⟨hl, hc, -⟩ := List.findIdx?_eq_some_iff_getElem.mp hi
  have hl' : i < 256 := by simpa using hl
  rw [byteToCode_eq_getElem]
  simp only [BitVec.toNat_ofNat, Nat.mod_eq_of_lt (show i < 2 ^ 8 by omega)]
  simpa using hc

/-- No byte is found exactly for a code outside the table's image (45_stringslot.md R221). -/
theorem codeToByte_eq_none {code : BitVec 16} : codeToByte cfg code = none ↔ ¬InTable cfg code := by
  rw [codeToByte, Option.map_eq_none_iff, List.findIdx?_eq_none_iff]
  constructor
  · rintro h ⟨b, hb⟩
    rw [byteToCode_eq_getElem] at hb
    have := h _ (List.getElem_mem (l := cfg.strTable.toList) (by simpa using b.isLt))
    rw [hb] at this; simp at this
  · intro h x hx
    obtain ⟨i, hi, rfl⟩ := List.getElem_of_mem hx
    have hi' : i < 256 := by simpa using hi
    rw [beq_eq_false_iff_ne]
    refine fun e => h ⟨BitVec.ofNat 8 i, ?_⟩
    rw [byteToCode_eq_getElem]
    simp only [BitVec.toNat_ofNat, Nat.mod_eq_of_lt (show i < 2 ^ 8 by omega)]
    exact e

/-- In a legal configuration two bytes have different codes (45_stringslot.md R221). -/
theorem byteToCode_injective (h : cfg.wf = true) {a b : BitVec 8} (e : byteToCode cfg a = byteToCode cfg b) : a = b := by
  have hn : cfg.strTable.toList.Nodup := by simp [Config.wf, Config.tableInjective] at h; exact h.1.1
  rw [byteToCode_eq_getElem, byteToCode_eq_getElem] at e
  exact BitVec.eq_of_toNat_eq ((List.Nodup.getElem_inj_iff hn).mp e)

/-- What `MEM.DEC` finds at a slot: nothing at a good one, and the error of its region at a bad one (45_stringslot.md
R223). -/
theorem memSlotError_cases (s : State) (c i : Nat) : (memSlotError s c i = none ↔ SlotGood s c i) ∧
    (¬SlotGood s c i → ∃ e, memSlotError s c i = some e ∧ e.errorClass.number = 5 ∧
      e.number = if i < c then 0x72 else 0x73) := by
  have hw : s.payWord (2 * i) = field16 s.pay (2 * i) := by simp [State.payWord, field16, leRead]
  rw [memSlotError, SlotGood, hw]
  by_cases hi : i < c
  · simp only [if_pos hi]
    cases hb : codeToByte s.cfg (field16 s.pay (2 * i)) with
    | none => exact ⟨by simpa using codeToByte_eq_none.mp hb, fun _ => ⟨_, rfl, rfl, rfl⟩⟩
    | some b =>
      have : InTable s.cfg (field16 s.pay (2 * i)) := ⟨b, byteToCode_of_codeToByte hb⟩
      exact ⟨by simpa using this, fun h => absurd this h⟩
  · simp only [if_neg hi]
    by_cases h0 : field16 s.pay (2 * i) = 0
    · rw [h0]; exact ⟨by simp, fun h => absurd rfl h⟩
    · rw [if_pos h0]; exact ⟨by simpa using h0, fun _ => ⟨_, rfl, rfl, rfl⟩⟩

end Sys2Proof.Machine
end

