-- ==== Sys2Proof/Tests/Slice0.lean ====
section
/-! SUPPORT. Tests/Slice0.lean: the model's own tests: ill-formed terms that WellFormed refuses, a written-out word for every
command, at most two one-step tests per command, and a witness for the hypotheses of every obligation that has some. Expected
values are those of 95_test_vectors.md unless a comment says otherwise. -/

namespace Sys2Proof.Tests

open Sys2Proof.Machine

set_option Elab.async false

/-- The test configuration of 95_test_vectors.md: its test table and the default parameters. -/
def config : Config where
  strTable := Config.tableOf fun b => BitVec.ofNat 16 (0x100 + b)
  flipHBit := 10
  flipVBit := 11
  palMask := 0xF#4

/-- The reset state with the test configuration. -/
def start : State := { State.reset with cfg := config }

/-- One step on the word answers with the response. -/
def answers (w : CommandWord) (s : State) (r : ResponseWord) : Bool :=
  match step { s with port := [.command w] } with
  | .next t => t.responses == [r]
  | .fault _ => false
  | .refused _ => false

/-- One step on the word answers success with no value and leaves a state that the check accepts. -/
def leaves (w : CommandWord) (s : State) (p : State → Bool) : Bool :=
  match step { s with port := [.command w] } with
  | .next t => t.responses == [0#64] && p t
  | .fault _ => false
  | .refused _ => false

/-- One step on the input leaves a state that the check accepts. -/
def stepLeaves (h : HostInput) (s : State) (p : State → Bool) : Bool :=
  match step { s with port := [h] } with
  | .next t => p t
  | .fault _ => false
  | .refused _ => false

/-! WellFormed: the test configuration is legal, and each check refuses an ill-formed term. -/

theorem test_config_wf : config.wf = true := by
  have h : config.strTable.toList.Nodup := by
    show (Config.tableOf _).toList.Nodup
    rw [toList_tableOf, List.nodup_map_iff_inj_on List.nodup_range]
    intro x hx y hy h
    rw [List.mem_range] at hx hy
    have := congrArg BitVec.toNat h
    simp at this; omega
  rw [Config.wf, Config.tableInjective, decide_eq_true h]; rfl
theorem test_table_not_injective : Config.tableInjective { config with strTable := Config.tableOf fun _ => 0 } = false := by
  refine decide_eq_false fun h => ?_
  replace h : (Config.tableOf fun _ => 0).toList.Nodup := h
  rw [toList_tableOf] at h
  exact absurd (List.inj_on_of_nodup_map h (x := 0) (by simp) (y := 1) (by simp) rfl) (by decide)
theorem test_flip_bit_not_legal : Config.flipBitsLegal { config with flipHBit := 9 } = false := by decide
theorem test_flip_bits_equal : Config.flipBitsDistinct { config with flipVBit := 10 } = false := by decide
theorem test_config_refused : Config.wf { config with flipVBit := 10 } = false := by
  rw [Config.wf, test_flip_bits_equal, Bool.and_false]
theorem test_opcode_not_listed : CommandWord.opcodeListed 0x15_0000_0000_0000_0000#72 = false := by decide
theorem test_unused_not_zero : CommandWord.unusedZero 0x52_0000_0000_0000_0001#72 = false := by decide
theorem test_word_refused : CommandWord.wf 0x30_0000_0000_8000_0000#72 = false := by decide
theorem test_operands_not_in_domain : ([.sysRdcsr 4, .sysWrcsr 1 0, .payRd 49152, .payWr 0 256, .strRd 256, .strWr 256 0,
    .rbufRd 64, .colSetr 0 256, .colSetrawr 0 32, .colSetrawg 0 64, .colGetr 256, .chrGet 0 0 1, .chrSet 0 0 0 16,
    .chrResolve 0 16, .grpGet 0 192, .grpSet 0 0 256, .scrGet 0 64, .scrSetchr 0 0 1024,
    .scrSetflip 0 0 4] : List Instr).all (fun i => !i.inDomain) = true := by decide

/-! Decode: for every command a word written out from the fields `OP A0 A1 A2 A3` (30_encoding.md R91, R93). Every operand
field a command uses has its own value. -/

theorem test_decode_sysClrerr : decode 0x01_0000_0000_0000_0000#72 = .ok .sysClrerr := by rfl
theorem test_decode_sysRdcsr : decode 0x02_1A2B_0000_0000_0000#72 = .ok (.sysRdcsr 0x1A2B) := by rfl
theorem test_decode_sysWrcsr : decode 0x03_1A2B_3C4D_0000_0000#72 = .ok (.sysWrcsr 0x1A2B 0x3C4D) := by rfl
theorem test_decode_payRd : decode 0x10_1A2B_0000_0000_0000#72 = .ok (.payRd 0x1A2B) := by rfl
theorem test_decode_payWr : decode 0x11_1A2B_3C4D_0000_0000#72 = .ok (.payWr 0x1A2B 0x3C4D) := by rfl
theorem test_decode_strRd : decode 0x12_1A2B_0000_0000_0000#72 = .ok (.strRd 0x1A2B) := by rfl
theorem test_decode_strWr : decode 0x13_1A2B_3C4D_0000_0000#72 = .ok (.strWr 0x1A2B 0x3C4D) := by rfl
theorem test_decode_rbufRd : decode 0x14_1A2B_0000_0000_0000#72 = .ok (.rbufRd 0x1A2B) := by rfl
theorem test_decode_colSetr : decode 0x20_1A2B_3C4D_0000_0000#72 = .ok (.colSetr 0x1A2B 0x3C4D) := by rfl
theorem test_decode_colSetg : decode 0x21_1A2B_3C4D_0000_0000#72 = .ok (.colSetg 0x1A2B 0x3C4D) := by rfl
theorem test_decode_colSetb : decode 0x22_1A2B_3C4D_0000_0000#72 = .ok (.colSetb 0x1A2B 0x3C4D) := by rfl
theorem test_decode_colGetr : decode 0x23_1A2B_0000_0000_0000#72 = .ok (.colGetr 0x1A2B) := by rfl
theorem test_decode_colGetg : decode 0x24_1A2B_0000_0000_0000#72 = .ok (.colGetg 0x1A2B) := by rfl
theorem test_decode_colGetb : decode 0x25_1A2B_0000_0000_0000#72 = .ok (.colGetb 0x1A2B) := by rfl
theorem test_decode_colSetrawr : decode 0x26_1A2B_3C4D_0000_0000#72 = .ok (.colSetrawr 0x1A2B 0x3C4D) := by rfl
theorem test_decode_colSetrawg : decode 0x27_1A2B_3C4D_0000_0000#72 = .ok (.colSetrawg 0x1A2B 0x3C4D) := by rfl
theorem test_decode_colSetrawb : decode 0x28_1A2B_3C4D_0000_0000#72 = .ok (.colSetrawb 0x1A2B 0x3C4D) := by rfl
theorem test_decode_colGetrawr : decode 0x29_1A2B_0000_0000_0000#72 = .ok (.colGetrawr 0x1A2B) := by rfl
theorem test_decode_colGetrawg : decode 0x2A_1A2B_0000_0000_0000#72 = .ok (.colGetrawg 0x1A2B) := by rfl
theorem test_decode_colGetrawb : decode 0x2B_1A2B_0000_0000_0000#72 = .ok (.colGetrawb 0x1A2B) := by rfl
theorem test_decode_colSetraw : decode 0x2C_1A2B_3C4D_0000_0000#72 = .ok (.colSetraw 0x1A2B 0x3C4D) := by rfl
theorem test_decode_colGetraw : decode 0x2D_1A2B_0000_0000_0000#72 = .ok (.colGetraw 0x1A2B) := by rfl
theorem test_decode_colGethex : decode 0x2E_1A2B_0000_0000_0000#72 = .ok (.colGethex 0x1A2B) := by rfl
theorem test_decode_palDec : decode 0x30_0000_0000_0000_0000#72 = .ok .palDec := by rfl
theorem test_decode_palEnc : decode 0x31_0000_0000_0000_0000#72 = .ok .palEnc := by rfl
theorem test_decode_chrDec : decode 0x40_0000_0000_0000_0000#72 = .ok .chrDec := by rfl
theorem test_decode_chrEnc : decode 0x41_0000_0000_0000_0000#72 = .ok .chrEnc := by rfl
theorem test_decode_chrGet : decode 0x42_1A2B_3C4D_5E6F_0000#72 = .ok (.chrGet 0x1A2B 0x3C4D 0x5E6F) := by rfl
theorem test_decode_chrSet : decode 0x43_1A2B_3C4D_5E6F_7081#72 = .ok (.chrSet 0x1A2B 0x3C4D 0x5E6F 0x7081) := by rfl
theorem test_decode_chrResolve : decode 0x44_1A2B_3C4D_0000_0000#72 = .ok (.chrResolve 0x1A2B 0x3C4D) := by rfl
theorem test_decode_grpDec : decode 0x50_0000_0000_0000_0000#72 = .ok .grpDec := by rfl
theorem test_decode_grpEnc : decode 0x51_0000_0000_0000_0000#72 = .ok .grpEnc := by rfl
theorem test_decode_grpGet : decode 0x52_1A2B_3C4D_0000_0000#72 = .ok (.grpGet 0x1A2B 0x3C4D) := by rfl
theorem test_decode_grpSet : decode 0x53_1A2B_3C4D_5E6F_0000#72 = .ok (.grpSet 0x1A2B 0x3C4D 0x5E6F) := by rfl
theorem test_decode_scrDec : decode 0x60_0000_0000_0000_0000#72 = .ok .scrDec := by rfl
theorem test_decode_scrEnc : decode 0x61_0000_0000_0000_0000#72 = .ok .scrEnc := by rfl
theorem test_decode_scrGet : decode 0x62_1A2B_3C4D_0000_0000#72 = .ok (.scrGet 0x1A2B 0x3C4D) := by rfl
theorem test_decode_scrGetraw : decode 0x63_1A2B_3C4D_0000_0000#72 = .ok (.scrGetraw 0x1A2B 0x3C4D) := by rfl
theorem test_decode_scrSetraw : decode 0x64_1A2B_3C4D_5E6F_0000#72 = .ok (.scrSetraw 0x1A2B 0x3C4D 0x5E6F) := by rfl
theorem test_decode_scrSetchr : decode 0x65_1A2B_3C4D_5E6F_0000#72 = .ok (.scrSetchr 0x1A2B 0x3C4D 0x5E6F) := by rfl
theorem test_decode_scrSetpal : decode 0x66_1A2B_3C4D_5E6F_0000#72 = .ok (.scrSetpal 0x1A2B 0x3C4D 0x5E6F) := by rfl
theorem test_decode_scrSetflip : decode 0x67_1A2B_3C4D_5E6F_0000#72 = .ok (.scrSetflip 0x1A2B 0x3C4D 0x5E6F) := by rfl
theorem test_decode_memDec : decode 0x70_0000_0000_0000_0000#72 = .ok .memDec := by rfl
theorem test_decode_memEnc : decode 0x71_0000_0000_0000_0000#72 = .ok .memEnc := by rfl
theorem test_decode_unlisted : decode 0x00_0000_0000_0000_0000#72 = .error (.unlistedOpcode 0x00) := by rfl
theorem test_decode_unlisted_first : decode 0xFF_0001_0002_0003_0004#72 = .error (.unlistedOpcode 0xFF) := by rfl
theorem test_decode_reserved : decode 0x01_0001_0000_0000_0000#72 = .error (.reservedField 0x01) := by rfl
theorem test_table_word : decodeTableWord 72 0x43000000050000000F = some (.chrSet 0 5 0 15) := by rfl

/-! One step. -/

theorem test_sysClrerr : leaves 0x01_0000_0000_0000_0000#72 { start with sticky := 0x44 } (fun t => t.sticky == 0) = true := by decide +kernel
theorem test_sysRdcsr : answers 0x02_0000_0000_0000_0000#72 { start with lasterr := 0x00404502 } 0x00000000_00404502#64 = true := by decide +kernel
theorem test_sysRdcsr_illegal : answers 0x02_0004_0000_0000_0000#72 start 0x0004F206_00000000#64 = true := by decide +kernel
theorem test_sysWrcsr : leaves 0x03_0002_FFFF_0000_0000#72 start (fun t => t.payLen == 0xFFFF && t.strLen == 0) = true := by decide +kernel
theorem test_sysWrcsr_read_only : answers 0x03_0001_0000_0000_0000#72 start 0x0001F206_00000000#64 = true := by decide +kernel
theorem test_payRd_last : answers 0x10_BFFF_0000_0000_0000#72 { start with pay := [(49151, 0xAB)] } 0x00000000_000000AB#64 = true := by decide +kernel
theorem test_payRd_outside : answers 0x10_C000_0000_0000_0000#72 start 0xC0001002_00000000#64 = true := by decide +kernel
theorem test_payWr : leaves 0x11_0801_00A7_0000_0000#72 start (fun t => Memory.read t.pay 2049 == 0xA7 && Memory.read t.pay 2048 == 0) = true := by decide +kernel
theorem test_payWr_address_first : answers 0x11_C000_0100_0000_0000#72 start 0xC0001002_00000000#64 = true := by decide +kernel
theorem test_strRd : answers 0x12_00FF_0000_0000_0000#72 { start with str := [(255, 0xFFFF)] } 0x00000000_0000FFFF#64 = true := by decide +kernel
theorem test_strRd_outside : answers 0x12_0100_0000_0000_0000#72 start 0x01001202_00000000#64 = true := by decide +kernel
theorem test_strWr : leaves 0x13_00FF_FFFF_0000_0000#72 start (fun t => Memory.read t.str 255 == 0xFFFF) = true := by decide +kernel
theorem test_strWr_outside : answers 0x13_0100_FFFF_0000_0000#72 start 0x01001202_00000000#64 = true := by decide +kernel
theorem test_rbufRd : answers 0x14_0005_0000_0000_0000#72 { start with rbuf := [(5, ⟨165, 138, 33⟩)] } 0x00000000_00A58A21#64 = true := by decide +kernel
theorem test_rbufRd_outside : answers 0x14_0040_0000_0000_0000#72 start 0x00401302_00000000#64 = true := by decide +kernel
theorem test_colSetr : leaves 0x20_0003_0064_0000_0000#72 start (fun t => Memory.read t.pal 3 == ⟨99, 0, 0⟩) = true := by decide +kernel
theorem test_colSetr_slot_first : answers 0x20_0100_0100_0000_0000#72 start 0x01002002_00000000#64 = true := by decide +kernel
theorem test_colSetg : leaves 0x21_0003_0064_0000_0000#72 { start with pal := [(3, ⟨99, 0, 0⟩)] } (fun t => Memory.read t.pal 3 == ⟨99, 101, 0⟩) = true := by decide +kernel
theorem test_colSetb : leaves 0x22_0003_00C8_0000_0000#72 { start with pal := [(3, ⟨99, 101, 0⟩)] } (fun t => Memory.read t.pal 3 == ⟨99, 101, 206⟩) = true := by decide +kernel
theorem test_colGetr : answers 0x23_0003_0000_0000_0000#72 { start with pal := [(3, ⟨99, 101, 206⟩)] } 0x00000000_00000063#64 = true := by decide +kernel
theorem test_colGetg : answers 0x24_0003_0000_0000_0000#72 { start with pal := [(3, ⟨99, 101, 206⟩)] } 0x00000000_00000065#64 = true := by decide +kernel
theorem test_colGetb : answers 0x25_0003_0000_0000_0000#72 { start with pal := [(3, ⟨99, 101, 206⟩)] } 0x00000000_000000CE#64 = true := by decide +kernel
theorem test_colSetrawr : leaves 0x26_0000_001F_0000_0000#72 start (fun t => Memory.read t.pal 0 == ⟨255, 0, 0⟩) = true := by decide +kernel
theorem test_colSetrawr_outside : answers 0x26_0000_0020_0000_0000#72 start 0x00202202_00000000#64 = true := by decide +kernel
theorem test_colSetrawg : leaves 0x27_0000_003F_0000_0000#72 start (fun t => Memory.read t.pal 0 == ⟨0, 255, 0⟩) = true := by decide +kernel
theorem test_colSetrawg_outside : answers 0x27_0000_0040_0000_0000#72 start 0x00402302_00000000#64 = true := by decide +kernel
theorem test_colSetrawb : leaves 0x28_0000_0009_0000_0000#72 start (fun t => Memory.read t.pal 0 == ⟨0, 0, 74⟩) = true := by decide +kernel
theorem test_colSetrawb_outside : answers 0x28_0000_0020_0000_0000#72 start 0x00202202_00000000#64 = true := by decide +kernel
theorem test_colGetrawr : answers 0x29_00FF_0000_0000_0000#72 { start with pal := [(255, ⟨107, 247, 82⟩)] } 0x00000000_0000000D#64 = true := by decide +kernel
theorem test_colGetrawg : answers 0x2A_00FF_0000_0000_0000#72 { start with pal := [(255, ⟨107, 247, 82⟩)] } 0x00000000_0000003D#64 = true := by decide +kernel
theorem test_colGetrawb : answers 0x2B_00FF_0000_0000_0000#72 { start with pal := [(255, ⟨107, 247, 82⟩)] } 0x00000000_0000000A#64 = true := by decide +kernel
theorem test_colSetraw : leaves 0x2C_0000_8000_0000_0000#72 start (fun t => Memory.read t.pal 0 == ⟨0, 4, 0⟩) = true := by decide +kernel
theorem test_colSetraw_mixed : leaves 0x2C_0004_1234_0000_0000#72 start (fun t => Memory.read t.pal 4 == ⟨165, 138, 33⟩) = true := by decide +kernel
theorem test_colGetraw : answers 0x2D_0003_0000_0000_0000#72 { start with pal := [(3, ⟨99, 101, 206⟩)] } 0x00000000_0000E58C#64 = true := by decide +kernel
theorem test_colGethex : answers 0x2E_0003_0000_0000_0000#72 { start with pal := [(3, ⟨99, 101, 206⟩)] } 0x00000000_006365CE#64 = true := by decide +kernel
theorem test_palDec : leaves 0x30_0000_0000_0000_0000#72 { start with pay := [(1, 0x80), (8, 0x34), (9, 0x12)], payLen := 512, pal := [(0, ⟨8, 8, 8⟩), (7, ⟨8, 8, 8⟩)] } (fun t => t.pal == [(0, ⟨0, 4, 0⟩), (4, ⟨165, 138, 33⟩)]) = true := by decide +kernel
theorem test_palDec_length : answers 0x30_0000_0000_0000_0000#72 { start with payLen := 511 } 0x01FF0101_00000000#64 = true := by decide +kernel
theorem test_palEnc : leaves 0x31_0000_0000_0000_0000#72 { start with pal := [(3, ⟨99, 101, 206⟩), (4, ⟨165, 138, 33⟩)], pay := [(2, 1), (512, 9)] } (fun t => t.pay == [(6, 0x8C), (7, 0xE5), (8, 0x34), (9, 0x12), (512, 9)] && t.payLen == 512) = true := by decide +kernel
theorem test_chrDec : leaves 0x40_0000_0000_0000_0000#72 { start with pay := [(0, 0xA3), (31, 0xF0), (32, 0x0F), (8191, 0x5C)], payLen := 8192 } (fun t => t.chr == [(0, 3), (1, 10), (63, 15), (64, 15), (16382, 12), (16383, 5)]) = true := by decide +kernel
theorem test_chrDec_length : answers 0x40_0000_0000_0000_0000#72 { start with payLen := 8191 } 0x1FFF0101_00000000#64 = true := by decide +kernel
theorem test_chrEnc : leaves 0x41_0000_0000_0000_0000#72 { start with chr := [(0, 3), (1, 10), (63, 15), (64, 15), (16382, 12), (16383, 5)] } (fun t => t.pay == [(0, 0xA3), (31, 0xF0), (32, 0x0F), (8191, 0x5C)] && t.payLen == 8192) = true := by decide +kernel
theorem test_chrGet : answers 0x42_0000_0005_0000_0000#72 { start with chr := [(5, 15)] } 0x00000000_0000000F#64 = true := by decide +kernel
theorem test_chrGet_cell : answers 0x42_0000_003F_003F_0000#72 start 0x0FFF4502_00000000#64 = true := by decide +kernel
theorem test_chrSet : leaves 0x43_00FF_003F_0000_000F#72 start (fun t => t.chr == [(16383, 15)]) = true := by decide +kernel
theorem test_chrSet_value_before_cell : answers 0x43_0000_0001_0001_0010#72 start 0x00104302_00000000#64 = true := by decide +kernel
theorem test_chrResolve : leaves 0x44_0000_0002_0000_0000#72 { start with chr := [(5, 15)], pal := [(47, ⟨165, 138, 33⟩)], rbuf := [(9, ⟨8, 8, 8⟩)] } (fun t => t.rbuf == [(5, ⟨165, 138, 33⟩)]) = true := by decide +kernel
theorem test_chrResolve_page : answers 0x44_0000_0010_0000_0000#72 start 0x00104402_00000000#64 = true := by decide +kernel
theorem test_grpDec : leaves 0x50_0000_0000_0000_0000#72 { start with pay := [(8, 8), (12743, 0xC1), (22820, 0xE6)], payLen := 49152 } (fun t => t.img == [(255, 0xC1), (256, 8), (25700, 0xE6)]) = true := by decide +kernel
theorem test_grpDec_length : answers 0x50_0000_0000_0000_0000#72 { start with payLen := 49153 } 0xC0010101_00000000#64 = true := by decide +kernel
theorem test_grpEnc : leaves 0x51_0000_0000_0000_0000#72 { start with img := [(255, 0xC1), (256, 8), (25700, 0xEE)] } (fun t => t.pay == [(8, 8), (12743, 0xC1), (22820, 0xEE)] && t.payLen == 49152) = true := by decide +kernel
theorem test_grpGet : answers 0x52_0064_0064_0000_0000#72 { start with img := [(25700, 0xE6)] } 0x00000000_000000E6#64 = true := by decide +kernel
theorem test_grpGet_y : answers 0x52_0000_00C0_0000_0000#72 start 0x00C05102_00000000#64 = true := by decide +kernel
theorem test_grpSet : leaves 0x53_0064_0064_00EE_0000#72 { start with img := [(25700, 0xE6)] } (fun t => t.img == [(25700, 0xEE)]) = true := by decide +kernel
theorem test_grpSet_value : answers 0x53_0000_0000_0100_0000#72 start 0x01005202_00000000#64 = true := by decide +kernel
theorem test_scrDec : leaves 0x60_0000_0000_0000_0000#72 { start with pay := [(2048, 0xC5), (2049, 0xA7)], payLen := 8192 } (fun t => t.tmap == [(32, ⟨965, 10, true, false⟩)]) = true := by decide +kernel
theorem test_scrDec_length : answers 0x60_0000_0000_0000_0000#72 start 0x00000101_00000000#64 = true := by decide +kernel
theorem test_scrEnc : leaves 0x61_0000_0000_0000_0000#72 { start with tmap := [(32, ⟨7, 10, false, true⟩), (2570, ⟨5, 58, true, false⟩)] } (fun t => t.pay == [(2048, 0x07), (2049, 0xA8), (4628, 0x05), (4629, 0xA4)] && t.payLen == 8192) = true := by decide +kernel
theorem test_scrGet : answers 0x62_0020_0000_0000_0000#72 { start with tmap := [(32, ⟨965, 58, true, false⟩)] } 0x00000000_0010EBC5#64 = true := by decide +kernel
theorem test_scrGet_x : answers 0x62_0040_0000_0000_0000#72 start 0x00406002_00000000#64 = true := by decide +kernel
theorem test_scrGetraw : answers 0x63_0020_0000_0000_0000#72 { start with tmap := [(32, ⟨965, 58, true, false⟩)] } 0x00000000_0000A7C5#64 = true := by decide +kernel
theorem test_scrGetraw_other_flip_bits : answers 0x63_0020_0000_0000_0000#72 { start with cfg := { config with flipHBit := 11, flipVBit := 10 }, tmap := [(32, ⟨0, 0, true, false⟩)] } 0x00000000_00000800#64 = true := by decide +kernel
theorem test_scrSetraw : leaves 0x64_003F_003F_A7C5_0000#72 start (fun t => t.tmap == [(4095, ⟨965, 10, true, false⟩)]) = true := by decide +kernel
theorem test_scrSetraw_mask : leaves 0x64_0000_0000_F000_0000#72 { start with cfg := { config with palMask := 0x7 } } (fun t => t.tmap == [(0, ⟨0, 7, false, false⟩)]) = true := by decide +kernel
theorem test_scrSetchr : leaves 0x65_0020_0000_0007_0000#72 { start with tmap := [(32, ⟨965, 58, false, true⟩)] } (fun t => t.tmap == [(32, ⟨7, 58, false, true⟩)]) = true := by decide +kernel
theorem test_scrSetchr_value : answers 0x65_0020_0000_0400_0000#72 start 0x04006202_00000000#64 = true := by decide +kernel
theorem test_scrSetpal : leaves 0x66_0020_0000_03FF_0000#72 { start with tmap := [(32, ⟨965, 10, true, false⟩)] } (fun t => t.tmap == [(32, ⟨965, 1023, true, false⟩)]) = true := by decide +kernel
theorem test_scrSetpal_value : answers 0x66_0020_0000_0400_0000#72 start 0x04006302_00000000#64 = true := by decide +kernel
theorem test_scrSetflip : leaves 0x67_0020_0000_0002_0000#72 { start with tmap := [(32, ⟨965, 58, true, false⟩)] } (fun t => t.tmap == [(32, ⟨965, 58, false, true⟩)]) = true := by decide +kernel
theorem test_scrSetflip_value : answers 0x67_0020_0000_0004_0000#72 start 0x00046402_00000000#64 = true := by decide +kernel
theorem test_memDec : leaves 0x70_0000_0000_0000_0000#72 { start with pay := [(0, 0x41), (1, 1), (2, 0x42), (3, 1), (512, 4)], payLen := 516, str := [(200, 0x1234)] } (fun t => t.str == [(0, 0x41), (1, 0x42)] && t.strLen == 2) = true := by decide +kernel
theorem test_memDec_tail : answers 0x70_0000_0000_0000_0000#72 { start with pay := [(0, 0x41), (1, 1), (2, 0x42), (3, 1), (4, 1), (512, 4)], payLen := 516 } 0x00027305_00000000#64 = true := by decide +kernel
theorem test_memEnc : leaves 0x71_0000_0000_0000_0000#72 { start with str := [(0, 0x41), (1, 0x42), (2, 0x100)], strLen := 2, pay := [(7, 9), (516, 9)] } (fun t => t.pay == [(0, 0x41), (1, 1), (2, 0x42), (3, 1), (512, 4), (516, 9)] && t.payLen == 516) = true := by decide +kernel
theorem test_memEnc_character : answers 0x71_0000_0000_0000_0000#72 { start with str := [(1, 0x100)], strLen := 2 } 0x00017105_00000000#64 = true := by decide +kernel
theorem test_illegal_opcode : answers 0x15_0000_0000_0000_0000#72 start 0x0015F006_00000000#64 = true := by decide +kernel
theorem test_reserved_before_payload_length : answers 0x30_0000_0000_8000_0000#72 start 0x0030F106_00000000#64 = true := by decide +kernel
theorem test_error_changes_nothing_else : stepLeaves (.command 0x65_0020_0000_0400_0000#72) { start with tmap := [(32, ⟨1, 2, true, true⟩)], sticky := 0x40 }
    (fun t => t == { start with tmap := [(32, ⟨1, 2, true, true⟩)], sticky := 0x44, lasterr := 0x04006202, responses := [0x04006202_00000000] }) = true := by decide +kernel
theorem test_reset_clears_the_csrs : stepLeaves (.resetDuring 0x31_0000_0000_0000_0000#72 ⟨[(5, 7)], [], [], [], [], [], []⟩) { start with lasterr := 1, sticky := 2, payLen := 3, strLen := 4 }
    (fun t => t == { start with pay := [(5, 7)] }) = true := by decide +kernel
theorem test_idle : step start = .next start := rfl

/-! The assembler (30_encoding.md R98, R99); the first line is R98's example. -/

theorem test_assemble_example : assembleProgram ["SCR.SETCHR 10, 40, 0x3FF ; tile (10,40) character 1023"] = some [0x65_000A_0028_03FF_0000#72] := by decide +kernel
theorem test_assemble_pseudo : assembleProgram ["COL.SETRGB 3, 100, 100, 200", "PAY.FILL 2048, 0xC5, 0xA7", "PAY.LEN 8192", "STR.PUT 0, 0x41, 0x42", "STR.LEN 2", "SYS.RDERR"] =
    some [0x20_0003_0064_0000_0000#72, 0x21_0003_0064_0000_0000#72, 0x22_0003_00C8_0000_0000#72, 0x11_0800_00C5_0000_0000#72, 0x11_0801_00A7_0000_0000#72, 0x03_0002_2000_0000_0000#72,
      0x13_0000_0041_0000_0000#72, 0x13_0001_0042_0000_0000#72, 0x03_0003_0002_0000_0000#72, 0x02_0000_0000_0000_0000#72] := by decide +kernel
theorem test_digit_values : "019aAfF".toList.map digitValue = [some 0, some 1, some 9, some 10, some 10, some 15, some 15] ∧
    "gG/:@`".toList.all (fun c => (digitValue c).isNone) = true := by decide +kernel
theorem test_assemble_operand_too_large : assembleProgram ["PAY.RD 65536"] = none := by decide +kernel

/-! Witnesses: for every obligation with hypotheses or cases, a state and operands that meet them, for each clause at the
boundary of its range. -/

theorem witness_DecodedCommandEncodesToItsWord : decode 0x43_0000_0005_0000_000F#72 = .ok (.chrSet 0 5 0 15) := by rfl
theorem witness_DecoderAcceptsExactlyTheLegalWords :
    CommandWord.opcodeListed 0x72_0000_0000_0000_0000#72 = false ∧
    (CommandWord.opcodeListed 0x71_0000_0000_0000_0001#72 = true ∧ CommandWord.unusedZero 0x71_0000_0000_0000_0001#72 = false) ∧
    (CommandWord.opcodeListed 0x43_FFFF_FFFF_FFFF_FFFF#72 = true ∧ CommandWord.unusedZero 0x43_FFFF_FFFF_FFFF_FFFF#72 = true) := by decide
theorem witness_StepRunsTheDecodedCommand :
    ({ start with port := [.command 0x31_0000_0000_0000_0000#72, .reset start.contents] } : State).port =
      .command 0x31_0000_0000_0000_0000#72 :: [.reset start.contents] ∧ decode 0x31_0000_0000_0000_0000#72 = .ok .palEnc :=
  ⟨rfl, rfl⟩
theorem witness_IllegalWordsRaiseIllegalCommand :
    ({ start with port := [.command 0x00_0000_0000_0000_0000#72] } : State).port = .command 0x00_0000_0000_0000_0000#72 :: [] ∧
    CommandWord.opcodeListed 0x00_0000_0000_0000_0000#72 = false ∧
    ({ start with port := [.command 0x01_0001_0000_0000_0000#72] } : State).port = .command 0x01_0001_0000_0000_0000#72 :: [] ∧
    CommandWord.opcodeListed 0x01_0001_0000_0000_0000#72 = true ∧ CommandWord.unusedZero 0x01_0001_0000_0000_0000#72 = false :=
  ⟨rfl, by decide, rfl, by decide, by decide⟩
theorem witness_ResetInputLeavesTheResetState :
    ({ start with port := [.reset start.contents] } : State).port = .reset start.contents :: [] ∧
    ({ start with port := [.resetDuring 0x31_0000_0000_0000_0000#72 start.contents] } : State).port =
      .resetDuring 0x31_0000_0000_0000_0000#72 start.contents :: [] := ⟨rfl, rfl⟩
theorem witness_IdleStepChangesNothing : start.port = [] := rfl
theorem witness_EveryStepKeepsTheInvariants :
    State.Inv { start with port := [.command 0x01_0000_0000_0000_0000#72], sticky := 4, pay := [(49151, 7)] } ∧
    ∃ t, step { start with port := [.command 0x01_0000_0000_0000_0000#72], sticky := 4, pay := [(49151, 7)] } = .next t :=
  ⟨⟨⟨by decide, rfl, rfl, rfl, rfl, rfl, rfl, fun _ => unlisted_quantized, fun _ => unlisted_quantized⟩, by decide, by decide,
    fun _ h => by rcases List.mem_singleton.mp h with rfl; trivial⟩, _, rfl⟩
theorem witness_ReservedErrorClassesAreNeverRaised :
    codeClass { start with lasterr := 0x00F0F006, sticky := 0x66 }.lasterr ∈ [0, 1, 2, 5, 6] ∧
    { start with lasterr := 0x00F0F006, sticky := 0x66 }.sticky &&& 0x18#32 = 0 ∧
    ∃ t, step { start with lasterr := 0x00F0F006, sticky := 0x66 } = .next t := ⟨by decide, by decide, _, rfl⟩
theorem witness_EveryCommandEndsInOneCompletionUpdate :
    (∃ t, exec .sysClrerr start = .next t ∧ t.lasterr = 0) ∧ ∃ t, exec (.payRd 0xC000) start = .next t ∧ t.lasterr ≠ 0 :=
  ⟨⟨_, rfl, rfl⟩, _, rfl, by decide⟩
theorem witness_ErrorRegistersInfluenceNoOtherCommand :
    Instr.sysRdcsr 2 ≠ .sysRdcsr 0 ∧ Instr.sysRdcsr 2 ≠ .sysRdcsr 1 := by decide
theorem witness_OperandErrorsAreExactlyTheDomainErrors :
    Instr.inDomain (.chrGet 255 63 0) = true ∧ Instr.inDomain (.chrGet 0 0 1) = false := by decide
theorem witness_SysRdcsrReadsTheRegisterBefore : 3 < (4#16).toNat ∧ 3 < (0xFFFF#16).toNat := by decide
theorem witness_SysWrcsrWritesOnlyTheLengths : (1#16 ≠ 2 ∧ 1#16 ≠ 3) ∧ (4#16 ≠ 2 ∧ 4#16 ≠ 3) := by decide
theorem witness_PayRdReadsOneByte : (49151#16).toNat ≤ 49151 ∧ 49151 < (49152#16).toNat := by decide
theorem witness_PayWrWritesOneByte : ((49151#16).toNat ≤ 49151 ∧ (255#16).toNat ≤ 255) ∧ 49151 < (49152#16).toNat ∧
    ((49151#16).toNat ≤ 49151 ∧ 255 < (256#16).toNat) := by decide
theorem witness_StrRdAndStrWrAccessOneCell : (255#16).toNat ≤ 255 ∧ 255 < (256#16).toNat := by decide
theorem witness_RbufRdReadsOneColour : (63#16).toNat ≤ 63 ∧ 63 < (64#16).toNat := by decide
theorem witness_ColourPackingRoundTrips : Color.Quantized ⟨99, 101, 206⟩ ∧
    (rawR ⟨99, 101, 206⟩ = rawR ⟨96, 100, 207⟩ ∧ rawG ⟨99, 101, 206⟩ = rawG ⟨96, 100, 207⟩ ∧
      rawB ⟨99, 101, 206⟩ = rawB ⟨96, 100, 207⟩) :=
  ⟨⟨⟨100, by decide⟩, ⟨100, by decide⟩, ⟨200, by decide⟩⟩, by decide⟩
theorem witness_ColSetChannelStoresTheQuantizedValue : ((255#16).toNat ≤ 255 ∧ (255#16).toNat ≤ 255) ∧
    Instr.colSetg 256 0 ∈ [Instr.colSetr 256 0, .colSetg 256 0, .colSetb 256 0] ∧ 255 < (256#16).toNat ∧
    Instr.colSetb 255 256 ∈ [Instr.colSetr 255 256, .colSetg 255 256, .colSetb 255 256] ∧
    ((255#16).toNat ≤ 255 ∧ 255 < (256#16).toNat) := by decide
theorem witness_ColGetChannelReadsTheStoredValue : (255#16).toNat ≤ 255 ∧
    Instr.colGetg 256 ∈ [Instr.colGetr 256, .colGetg 256, .colGetb 256] ∧ 255 < (256#16).toNat := by decide
theorem witness_ColSetRawChannelStoresTheQuantizedValue : (255#16).toNat ≤ 255 ∧ (31#16).toNat ≤ 31 ∧ (63#16).toNat ≤ 63 ∧
    31 < (32#16).toNat ∧ 63 < (64#16).toNat ∧
    Instr.colSetrawg 256 0 ∈ [Instr.colSetrawr 256 0, .colSetrawg 256 0, .colSetrawb 256 0] ∧ 255 < (256#16).toNat := by decide
theorem witness_ColGetRawChannelReadsTheRawValue : (255#16).toNat ≤ 255 ∧
    Instr.colGetrawb 256 ∈ [Instr.colGetrawr 256, .colGetrawg 256, .colGetrawb 256] ∧ 255 < (256#16).toNat := by decide
theorem witness_ColSetrawThenGetrawReturnsTheWord : (255#16).toNat ≤ 255 ∧ 255 < (256#16).toNat := by decide
theorem witness_ColGetrawAndGethexReadTheColour : (255#16).toNat ≤ 255 ∧ 255 < (256#16).toNat := by decide
theorem witness_PalDecUnpacksEverySlot : { start with payLen := 512 }.payLen.toNat = 512 ∧
    { start with payLen := 511 }.payLen.toNat ≠ 512 ∧ { start with payLen := 513 }.payLen.toNat ≠ 512 := by decide
theorem witness_PaletteRoundTrips : { start with payLen := 512 }.payLen.toNat = 512 ∧
    ∀ n < 256, (Memory.read { start with pal := [(255, ⟨99, 101, 206⟩)] }.pal n).Quantized :=
  ⟨by decide, fun n _ => by
    simp only [Memory.read]
    split
    · exact ⟨⟨100, by decide⟩, ⟨100, by decide⟩, ⟨200, by decide⟩⟩
    · exact unlisted_quantized⟩
theorem witness_ChrDecUnpacksEveryCell : { start with payLen := 8192 }.payLen.toNat = 8192 ∧
    { start with payLen := 8191 }.payLen.toNat ≠ 8192 := by decide
theorem witness_ChrGetReadsOneCell : 255 < (256#16).toNat ∧ (¬255 < (255#16).toNat ∧ 63 < (64#16).toNat) ∧
    (¬63 < (63#16).toNat ∧ 63 < (1#16).toNat * 64 + (0#16).toNat) ∧ ¬63 < (0#16).toNat * 64 + (63#16).toNat := by decide
theorem witness_ChrSetWritesOneCell : 255 < (256#16).toNat ∧ (¬255 < (255#16).toNat ∧ 63 < (64#16).toNat) ∧
    (¬63 < (63#16).toNat ∧ 15 < (16#16).toNat) ∧ (¬15 < (15#16).toNat ∧ 63 < (1#16).toNat * 64 + (0#16).toNat) ∧
    ¬63 < (0#16).toNat * 64 + (63#16).toNat := by decide
theorem witness_ChrResolveFillsTheResolveBuffer : 255 < (256#16).toNat ∧ (¬255 < (255#16).toNat ∧ 15 < (16#16).toNat) ∧
    ¬15 < (15#16).toNat := by decide
theorem witness_CharacterBankRoundTrips : { start with payLen := 8192, pay := [(8191, 0x5C)] }.payLen.toNat = 8192 := by decide
theorem witness_BitmapIndexPairIsABijection : grpDst 2 3 7 7 7 7 = 49151 ∧ grpSrc 2 3 7 7 7 7 = 49151 ∧
    grpDst 0 0 0 0 1 0 = 256 ∧ grpSrc 0 0 0 0 1 0 = 8 := by decide
theorem witness_GrpDecPlacesEveryPixel : { start with payLen := 49152 }.payLen.toNat = 49152 ∧
    { start with payLen := 49153 }.payLen.toNat ≠ 49152 := by decide
theorem witness_GrpGetAndSetAccessOnePixel : 255 < (256#16).toNat ∧ (¬255 < (255#16).toNat ∧ 191 < (192#16).toNat) ∧
    (¬191 < (191#16).toNat ∧ 255 < (256#16).toNat) ∧ ¬255 < (255#16).toNat := by decide
theorem witness_BitmapRoundTrips : { start with payLen := 49152, pay := [(49151, 9)] }.payLen.toNat = 49152 := by decide
theorem witness_TileWordFollowsTheConfiguration : config.wf = true := test_config_wf
theorem witness_ScrDecPlacesEveryTile : { start with payLen := 8192 }.payLen.toNat = 8192 ∧
    { start with payLen := 8192 }.cfg.wf = true ∧ { start with payLen := 8191 }.payLen.toNat ≠ 8192 :=
  ⟨by decide, test_config_wf, by decide⟩
theorem witness_ScrGetAndGetrawReadOneTile : 63 < (64#16).toNat ∧ ¬63 < (63#16).toNat := by decide
theorem witness_ScrSetrawWritesOneTile : 63 < (64#16).toNat ∧ ¬63 < (63#16).toNat := by decide
theorem witness_ScrSetchrWritesOneField : 63 < (64#16).toNat ∧ ¬63 < (63#16).toNat ∧ 1023 < (1024#16).toNat ∧
    ¬1023 < (1023#16).toNat := by decide
theorem witness_ScrSetpalWritesOneField : 63 < (64#16).toNat ∧ ¬63 < (63#16).toNat ∧ 1023 < (1024#16).toNat ∧
    ¬1023 < (1023#16).toNat := by decide
theorem witness_ScrSetflipWritesTheFlags : 63 < (64#16).toNat ∧ ¬63 < (63#16).toNat ∧ 3 < (4#16).toNat ∧
    ¬3 < (3#16).toNat := by decide
theorem witness_TileMapRoundTrips : { start with payLen := 8192 }.cfg.wf = true ∧
    { start with payLen := 8192 }.cfg.palMask = 0xF#4 ∧ { start with payLen := 8192 }.payLen.toNat = 8192 :=
  ⟨test_config_wf, rfl, by decide⟩

/-- The state after P5's command 4: the payload of the string 0x41, 0x42. -/
def mailbox : State :=
  { start with payLen := 516, pay := [(0, 0x41), (1, 1), (2, 0x42), (3, 1), (512, 4)] }

theorem witness_MemDecDecodesOrReportsTheFirstFailure :
    start.payLen.toNat ≠ 516 ∧ mailbox.payLen.toNat = 516 ∧
    lengthField [(512, 5)] % 2 = 1 ∧ 512 < lengthField [(512, 2), (513, 2)] ∧ ¬512 < lengthField [(513, 2)] ∧
    (lengthField mailbox.pay % 2 = 0 ∧ lengthField mailbox.pay / 2 = 2) ∧ (∀ i < 256, SlotGood mailbox 2 i) ∧
    ¬SlotGood { mailbox with pay := [(0, 0x41), (1, 1), (2, 0x42), (3, 1), (4, 1), (512, 4)] } 2 2 := by
  refine ⟨by decide, by decide, by decide, by decide, by decide, by decide, fun i hi => ?_, by simp [SlotGood]; decide⟩
  have h0 : InTable config 0x141 := ⟨0x41, by decide +kernel⟩
  have h1 : InTable config 0x142 := ⟨0x42, by decide +kernel⟩
  by_cases hi2 : i < 2
  · interval_cases i
    · exact h0
    · exact h1
  · rw [SlotGood, if_neg hi2]
    have h : ∀ i < 256, ¬i < 2 → field16 mailbox.pay (2 * i) = 0 := by decide +kernel
    exact h i hi hi2
theorem witness_MemEncEncodesOrReportsTheFirstFailure :
    256 < { start with strLen := 257 }.strLen.toNat ∧ ¬256 < { start with strLen := 256 }.strLen.toNat ∧
    (∀ i < { start with strLen := 256 }.strLen.toNat, (Memory.read { start with strLen := 256 }.str i).toNat ≤ 255) ∧
    ((∀ j < 1, (Memory.read [(1, 0x100#16)] j).toNat ≤ 255) ∧ 255 < (Memory.read [(1, 0x100#16)] 1).toNat) :=
  ⟨by decide, by decide, fun _ _ => by show (0#16).toNat ≤ 255; decide, by decide⟩

/-- The command succeeds. -/
def succeeds (i : Instr) (s : State) : Bool :=
  match exec i s with
  | .next t => t.lasterr == 0
  | .fault _ => false
  | .refused _ => false

theorem exists_of_succeeds {i : Instr} {s : State} (h : succeeds i s = true) :
    ∃ t, exec i s = .next t ∧ t.lasterr = 0 := by
  rw [succeeds] at h
  split at h
  · next t e => exact ⟨t, e, by simpa using h⟩
  · cases h
  · cases h

theorem witness_StringSlotRoundTrips : start.cfg.wf = true ∧
    (∃ t, exec .memEnc start = .next t ∧ t.lasterr = 0) ∧ mailbox.cfg.wf = true ∧
    ∃ t, exec .memDec mailbox = .next t ∧ t.lasterr = 0 :=
  ⟨test_config_wf, exists_of_succeeds (by decide +kernel), test_config_wf, exists_of_succeeds (by decide +kernel)⟩

theorem witness_PseudoInstructionsExpandToTheirCommands : [0x41#16, 0x42#16] ≠ [] ∧
    65534 + [0x41#16, 0x42#16].length ≤ 65536 := by decide

end Sys2Proof.Tests
end

