-- ==== Sys2Proof/Proofs/Scope.lean ====
section
/-! Proofs/Scope.lean: the RTB acts only on an input of the host (00_scope.md R12). -/

namespace Sys2Proof.Machine

/-- The idle branch of `step`: with nothing on the port there is no input to take (assumption 3). -/
theorem step_of_port_nil {s : State} (h : s.port = []) : step s = .next s := by
  rw [step, h]

/-- Settles O9: an idle step is the first branch of `step`. -/
theorem idleStepChangesNothing : Obligations.IdleStepChangesNothing := by
  unfold Obligations.IdleStepChangesNothing
  intro s hport
  exact step_of_port_nil hport

end Sys2Proof.Machine
end

/-! Proofs/Reset.lean: what a reset leaves, and the state after reset (10_state.md R33, R37, R40; 70_reset_and_hazards.md
R290, R291). -/

namespace Sys2Proof.Machine

/-! One equation per branch of `step` that takes an input off the port. -/

theorem step_command {s : State} {w : CommandWord} {rest : List HostInput} {i : Instr}
    (h : s.port = .command w :: rest) (hd : decode w = .ok i) : step s = exec i (s.setPort rest) := by
  simp only [step, h, hd]

theorem step_illegal {s : State} {w : CommandWord} {rest : List HostInput} {e : DecodeError}
    (h : s.port = .command w :: rest) (hd : decode w = .error e) : step s = raiseIllegal e (s.setPort rest) := by
  simp only [step, h, hd]

theorem step_reset {s : State} {d : BufferContents} {rest : List HostInput}
    (h : s.port = .reset d :: rest) : step s = .next ((s.setPort rest).afterReset d) := by
  simp only [step, h]

theorem step_resetDuring {s : State} {w : CommandWord} {d : BufferContents} {rest : List HostInput}
    (h : s.port = .resetDuring w d :: rest) : step s = .next ((s.setPort rest).afterReset d) := by
  simp only [step, h]

/-- Settles O7: both reset inputs leave `afterReset` of the state with the input taken. -/
theorem resetInputLeavesTheResetState : Obligations.ResetInputLeavesTheResetState := by
  unfold Obligations.ResetInputLeavesTheResetState
  rintro s w d rest (hport | hport)
  · exact step_reset hport
  · exact step_resetDuring hport

/-- The configuration at reset is legal: its table is injective and its flip bits are 10 and 11 (assumptions 7, 8). -/
theorem instantiated_wf : Config.instantiated.wf = true := by
  have htable : Config.instantiated.tableInjective = true := decide_eq_true instantiated_table_nodup
  rw [Config.wf, htable]
  rfl

/-- Settles O8. -/
theorem resetStateHasZeroCsrsAndLegalConfig : Obligations.ResetStateHasZeroCsrsAndLegalConfig := by
  unfold Obligations.ResetStateHasZeroCsrsAndLegalConfig
  exact ⟨rfl, rfl, rfl, rfl, instantiated_wf⟩

/-- Buffers that list no cell are legal: every cell reads as zero, and the colour of three zero channels is quantized
(assumption 4). -/
theorem legal_reset_contents : State.reset.contents.Legal where
  pay := Memory.wf_nil _
  img := Memory.wf_nil _
  pal := Memory.wf_nil _
  chr := Memory.wf_nil _
  tmap := Memory.wf_nil _
  str := Memory.wf_nil _
  rbuf := Memory.wf_nil _
  palQuantized _ := unlisted_quantized
  rbufQuantized _ := unlisted_quantized

/-- Settles O12. -/
theorem resetStateMeetsTheInvariants : Obligations.ResetStateMeetsTheInvariants := by
  unfold Obligations.ResetStateMeetsTheInvariants
  exact {
    buffers := legal_reset_contents
    lasterrReserved := by decide
    stickyReserved := by decide
    port := fun _ hmem => absurd hmem List.not_mem_nil }

end Sys2Proof.Machine

/-! Proofs/Completion.lean: every command ends in one completion update (60_exceptions.md R262, R270), and no step changes
the configuration (10_state.md R37). -/

namespace Sys2Proof.Machine

/-- The `STICKY` bit of an error is the one of the class in its completion code (10_state.md R24, R25). -/
theorem stickyBit_eq_codeClass (c : Cause) (info : BitVec 16) : stickyBit c = 1#32 <<< codeClass (failureCode c info) := by
  rw [codeClass_failureCode, stickyBit]

theorem codeClass_failureCode_mem (c : Cause) (info : BitVec 16) : codeClass (failureCode c info) ∈ [1, 2, 5, 6] := by
  rw [codeClass_failureCode]
  exact errorClass_number_mem c

/-- Bits 7:4 of an error's completion code are 0 (10_state.md R24). -/
theorem failureCode_reserved (c : Cause) (info : BitVec 16) : (failureCode c info).extractLsb' 4 4 = 0#4 := by
  rw [failureCode_eq_errorCode]
  exact errorCode_reserved (by cases c <;> decide) _ _

/-- The completion code of an error differs from that of a success: its class is not 0. -/
theorem failureCode_ne_zero (c : Cause) (info : BitVec 16) : failureCode c info ≠ 0 := by
  intro h
  have hclass := codeClass_failureCode_mem c info
  rw [h] at hclass
  exact absurd hclass (by decide)

/-- Settles O15: an error and a success, the two ways `exec_ends` leaves, are each one completion update. -/
theorem everyCommandEndsInOneCompletionUpdate : Obligations.EveryCommandEndsInOneCompletionUpdate := by
  unfold Obligations.EveryCommandEndsInOneCompletionUpdate
  intro i s
  rcases exec_ends i s with ⟨c, info, hraise⟩ | ⟨t, v, hsame, hsticky, hsucceed⟩
  · refine ⟨_, failureCode c info, 0, hraise, rfl, rfl, rfl, fun h => absurd h (failureCode_ne_zero c info), fun _ => ?_⟩
    refine ⟨codeClass_failureCode_mem c info, failureCode_reserved c info, rfl, ?_⟩
    rw [stickyBit_eq_codeClass c info]
    rfl
  · refine ⟨_, 0, v, hsucceed, rfl, ?_, hsame.port, fun _ => hsticky, fun h => absurd rfl h⟩
    rw [State.complete_responses, hsame.responses, responseWord]

/-- Settles O14: idle, a command, an illegal word and a reset each answer a next state and write no configuration. -/
theorem noStepChangesTheConfiguration : Obligations.NoStepChangesTheConfiguration := by
  unfold Obligations.NoStepChangesTheConfiguration
  intro s
  rcases hport : s.port with _ | ⟨w | d | ⟨w, d⟩, rest⟩
  · exact ⟨s, step_of_port_nil hport, rfl⟩
  · cases hd : decode w with
    | ok i =>
      obtain ⟨t, _, hnext, _, hcfg, _⟩ := (exec_ends i (s.setPort rest)).next
      exact ⟨t, (step_command hport hd).trans hnext, hcfg⟩
    | error e =>
      obtain ⟨t, _, hnext, _, hcfg, _⟩ := (raiseIllegal_ends (P := fun _ => True) e (s.setPort rest)).next
      exact ⟨t, (step_illegal hport hd).trans hnext, hcfg⟩
  · exact ⟨_, step_reset hport, rfl⟩
  · exact ⟨_, step_resetDuring hport, rfl⟩

end Sys2Proof.Machine

/-! Proofs/Invariant.lean: every step keeps the invariants of the buffers, `LASTERR` and `STICKY` (10_state.md R33). -/

namespace Sys2Proof.Machine

section Legal

variable {s : State} {P : State → Prop}

theorem inQ5Image_q5 (v : BitVec 8) : InQ5Image (q5 v) := ⟨v, rfl⟩

theorem inQ6Image_q6 (v : BitVec 8) : InQ6Image (q6 v) := ⟨v, rfl⟩

theorem Color.Quantized.withRed {c : Color} (hc : c.Quantized) {x : BitVec 8} (hx : InQ5Image x) :
    ({ c with r := x } : Color).Quantized := ⟨hx, hc.2⟩

theorem Color.Quantized.withGreen {c : Color} (hc : c.Quantized) {x : BitVec 8} (hx : InQ6Image x) :
    ({ c with g := x } : Color).Quantized := by
  obtain ⟨hr, -, hb⟩ := hc
  exact ⟨hr, hx, hb⟩

theorem Color.Quantized.withBlue {c : Color} (hc : c.Quantized) {x : BitVec 8} (hx : InQ5Image x) :
    ({ c with b := x } : Color).Quantized := by
  obtain ⟨hr, hg, -⟩ := hc
  exact ⟨hr, hg, hx⟩

/-! A write at an index that exists keeps the buffers legal (20_memory.md R60). -/

theorem BufferContents.Legal.writePay (h : s.contents.Legal) {a : Nat} (ha : a < payCells) (v : BitVec 8) :
    (s.setPay (Memory.write s.pay a v)).contents.Legal := h.setPay (Memory.wf_write h.pay ha v)

theorem BufferContents.Legal.writeImg (h : s.contents.Legal) {a : Nat} (ha : a < imgCells) (v : BitVec 8) :
    (s.setImg (Memory.write s.img a v)).contents.Legal := h.setImg (Memory.wf_write h.img ha v)

theorem BufferContents.Legal.writePal (h : s.contents.Legal) {n : Nat} (hn : n < palCells) {c : Color}
    (hc : c.Quantized) : (s.setPal (Memory.write s.pal n c)).contents.Legal :=
  h.setPal (Memory.wf_write h.pal hn c) (quantized_write h.palQuantized n hc)

theorem BufferContents.Legal.writeChr (h : s.contents.Legal) {k : Nat} (hk : k < chrCells) (v : BitVec 4) :
    (s.setChr (Memory.write s.chr k v)).contents.Legal := h.setChr (Memory.wf_write h.chr hk v)

theorem BufferContents.Legal.writeTmap (h : s.contents.Legal) {slot : Nat} (hslot : slot < tmapCells) (t : Tile) :
    (s.setTmap (Memory.write s.tmap slot t)).contents.Legal := h.setTmap (Memory.wf_write h.tmap hslot t)

theorem BufferContents.Legal.writeStr (h : s.contents.Legal) {i : Nat} (hi : i < strCells) (v : BitVec 16) :
    (s.setStr (Memory.write s.str i v)).contents.Legal := h.setStr (Memory.wf_write h.str hi v)

/-! How the operations shared by a family of commands end on legal buffers. -/

/-- An operand check, then the rest of a command: it ends in the check's error or as the rest ends. -/
theorem EndsFrom.check {b : Prop} [Decidable b] {c : Cause} {info : BitVec 16} {o : Host.Outcome State Fault Refusal}
    (h : ¬b → EndsFrom s P o) : EndsFrom s P (if b then Machine.raise c info s else o) :=
  .ite (fun _ => .raise c info) h

/-- A command that writes nothing ends as it began. -/
theorem EndsFrom.unwritten (h : P s) (v : BitVec 32) : EndsFrom s P (Machine.succeed s v) :=
  .succeed (.refl s) h v

/-- A `COL` setter: slot check, value check, and a quantized colour (40_color.md R118 to R120, R124 to R126). -/
theorem colSet_ends_legal (h : s.contents.Legal) {n : Operand} {b : Prop} [Decidable b] {c : Cause} {info : BitVec 16}
    {f : Color → Color} (hf : ∀ old : Color, old.Quantized → (f old).Quantized) :
    EndsFrom s (fun t => t.contents.Legal)
      (withSlot n s fun old => if b then raise c info s else storeColor n (f old) s) :=
  withSlot_ends fun hn => .check fun _ =>
    storeColor_ends (h.writePal (Nat.lt_succ_of_le hn) (hf _ (h.palQuantized _)))

/-- A payload that fits its buffer (20_memory.md R67). -/
theorem storePayload_ends_legal (h : s.contents.Legal) {size : Nat} (hsize : size ≤ payCells) {cs : List Nat}
    {f : Nat → BitVec 8} : EndsFrom s (fun t => t.contents.Legal) (storePayload size cs f s) :=
  storePayload_ends (h.setPay (Memory.wf_fill hsize cs f h.pay))

/-- From legal buffers, a command that succeeds leaves legal buffers (10_state.md R33 (a), (b)). -/
theorem exec_ends_legal (i : Instr) (h : s.contents.Legal) :
    EndsFrom s (fun t => t.contents.Legal) (exec i s) := by
  cases i with
  | sysClrerr => exact .succeed (.setSticky _ _) h _
  | sysRdcsr n =>
    simp only [exec, execSysRdcsr]
    cases readCsr? n.toNat s with
    | some v => exact .unwritten h v
    | none => exact .raise _ _
  | sysWrcsr n v =>
    simp only [exec, execSysWrcsr]
    exact .ite (fun _ => .succeed (.setPayLen _ _) h _) fun _ =>
      .ite (fun _ => .succeed (.setStrLen _ _) h _) fun _ => .raise _ _
  | payRd a => exact .check fun _ => .unwritten h _
  | payWr a b =>
    refine .check fun ha => .check fun _ => .succeed (.setPay _ _) (h.writePay ?_ _) _
    unfold payCells; omega
  | strRd i => exact .check fun _ => .unwritten h _
  | strWr i v =>
    refine .check fun hi => .succeed (.setStr _ _) (h.writeStr ?_ _) _
    unfold strCells; omega
  | rbufRd i => exact .check fun _ => .unwritten h _
  | colSetr n v => exact colSet_ends_legal h fun _ hold => hold.withRed (inQ5Image_q5 _)
  | colSetg n v => exact colSet_ends_legal h fun _ hold => hold.withGreen (inQ6Image_q6 _)
  | colSetb n v => exact colSet_ends_legal h fun _ hold => hold.withBlue (inQ5Image_q5 _)
  | colSetrawr n v => exact colSet_ends_legal h fun _ hold => hold.withRed (inQ5Image_storeRaw5 _)
  | colSetrawg n v => exact colSet_ends_legal h fun _ hold => hold.withGreen (inQ6Image_storeRaw6 _)
  | colSetrawb n v => exact colSet_ends_legal h fun _ hold => hold.withBlue (inQ5Image_storeRaw5 _)
  | colSetraw n w =>
    simp only [exec, execColSetraw]
    exact withSlot_ends fun hn => storeColor_ends (h.writePal (Nat.lt_succ_of_le hn) (fromRaw_quantized w))
  | colGetr n | colGetg n | colGetb n | colGetrawr n | colGetrawg n | colGetrawb n | colGetraw n | colGethex n =>
    simp only [exec, execColGetr, execColGetg, execColGetb, execColGetrawr, execColGetrawg, execColGetrawb,
      execColGetraw, execColGethex]
    exact withSlot_ends fun _ => .unwritten h _
  | palDec =>
    exact withPayload_ends fun _ => .succeed (.setPal _ _)
      (h.setPal (Memory.wf_fill le_rfl _ _ h.pal) (quantized_fill (fun _ => fromRaw_quantized _) h.palQuantized)) _
  | chrDec => exact withPayload_ends fun _ => .succeed (.setChr _ _) (h.setChr (Memory.wf_fill le_rfl _ _ h.chr)) _
  | grpDec => exact withPayload_ends fun _ => .succeed (.setImg _ _) (h.setImg (Memory.wf_fill le_rfl _ _ h.img)) _
  | scrDec => exact withPayload_ends fun _ => .succeed (.setTmap _ _) (h.setTmap (Memory.wf_fill le_rfl _ _ h.tmap)) _
  | palEnc | chrEnc | grpEnc | scrEnc => exact storePayload_ends_legal h (by decide)
  | chrGet t x y => exact .check fun _ => .check fun _ => .check fun _ => .check fun _ => .unwritten h _
  | chrSet t x y v =>
    refine .check fun ht => .check fun _ => .check fun _ => .check fun _ => .check fun hcell =>
      .succeed (.setChr _ _) (h.writeChr ?_ _) _
    unfold chrKey chrCells; omega
  | chrResolve t p =>
    exact .check fun _ => .check fun _ => .succeed (.setRbuf _ _)
      (h.setRbuf (Memory.wf_fill le_rfl _ _ h.rbuf) (quantized_fill (fun _ => h.palQuantized _) h.rbufQuantized)) _
  | grpGet x y => exact .check fun _ => .check fun _ => .unwritten h _
  | grpSet x y v =>
    refine .check fun hx => .check fun hy => .check fun _ => .succeed (.setImg _ _) (h.writeImg ?_ _) _
    unfold cellIndex imgCells; omega
  | scrGet x y | scrGetraw x y =>
    simp only [exec, execScrGet, execScrGetraw]
    exact withTile_ends fun _ => .unwritten h _
  | scrSetraw x y w =>
    simp only [exec, execScrSetraw]
    exact withTile_ends fun hslot => storeTile_ends (h.writeTmap hslot _)
  | scrSetchr x y v | scrSetpal x y v | scrSetflip x y f =>
    simp only [exec, execScrSetchr, execScrSetpal, execScrSetflip]
    exact withTile_ends fun hslot => .check fun _ => storeTile_ends (h.writeTmap hslot _)
  | memDec =>
    simp only [exec, execMemDec]
    refine withPayload_ends fun _ => .check fun _ => ?_
    split
    · exact .raise _ _
    · exact .succeed ((SameControl.setStr _ _).trans (.setStrLen _ _)) (h.setStr (Memory.wf_fill le_rfl _ _ h.str)) _
  | memEnc =>
    simp only [exec, execMemEnc]
    refine .check fun _ => ?_
    split
    · exact .raise _ _
    · exact storePayload_ends_legal h (by decide)

/-- A command keeps the buffers legal, also when it ends in an error, which writes none of them. -/
theorem legal_of_exec {i : Instr} {t : State} (h : s.contents.Legal) (ht : exec i s = .next t) : t.contents.Legal := by
  have hends := exec_ends_legal i h
  rw [ht] at hends
  rcases hends with ⟨c, info, hraise⟩ | ⟨u, v, -, hlegal, hsucceed⟩
  · rw [raise_eq_next hraise.symm]
    exact h
  · rw [succeed_eq_next hsucceed.symm]
    exact hlegal

end Legal

/-! The reserved bits of `LASTERR` and `STICKY` (10_state.md R33 (c)). -/

theorem zero_reserved : (0#32).extractLsb' 4 4 = 0#4 := by decide

theorem stickyBit_reserved (c : Cause) : stickyBit c &&& 0xFFFFFF81#32 = 0#32 := by
  cases c <;> decide

theorem or_stickyBit_reserved {x : BitVec 32} (hx : x &&& 0xFFFFFF81#32 = 0#32) (c : Cause) :
    (x ||| stickyBit c) &&& 0xFFFFFF81#32 = 0#32 := by
  rw [BitVec.and_comm, BitVec.and_or_distrib_left, BitVec.and_comm, hx, BitVec.and_comm, stickyBit_reserved,
    BitVec.or_self]

/-- Taking the next input off the port keeps the invariants. -/
theorem State.Inv.setPort {s : State} (h : s.Inv) {input : HostInput} {rest : List HostInput}
    (hport : s.port = input :: rest) : (s.setPort rest).Inv where
  buffers := h.buffers
  lasterrReserved := h.lasterrReserved
  stickyReserved := h.stickyReserved
  port := fun g hg => h.port g (hport ▸ List.mem_cons_of_mem _ hg)

/-- An error keeps the invariants. -/
theorem State.Inv.raise {s t : State} (h : s.Inv) {c : Cause} {info : BitVec 16} (ht : raise c info s = .next t) :
    t.Inv := by
  rw [raise_eq_next ht]
  exact {
    buffers := h.buffers
    lasterrReserved := failureCode_reserved c info
    stickyReserved := or_stickyBit_reserved h.stickyReserved c
    port := h.port }

/-- A command keeps the invariants: the buffers by `legal_of_exec`, the registers and the port by `exec_ends`. -/
theorem State.Inv.exec {s t : State} (h : s.Inv) {i : Instr} (ht : exec i s = .next t) : t.Inv := by
  have hbuffers : t.contents.Legal := legal_of_exec h.buffers ht
  have hends := exec_ends i s
  rw [ht] at hends
  rcases hends with ⟨c, info, hraise⟩ | ⟨u, v, hsame, hsticky, hsucceed⟩
  · exact h.raise hraise.symm
  · obtain rfl := succeed_eq_next hsucceed.symm
    have hreserved : u.sticky &&& 0xFFFFFF81#32 = 0#32 := by
      rw [hsticky]
      split
      · decide
      · exact h.stickyReserved
    exact {
      buffers := hbuffers
      lasterrReserved := zero_reserved
      stickyReserved := hreserved
      port := fun g hg => h.port g (hsame.port ▸ hg) }

/-- A reset to legal buffer contents keeps the invariants (10_state.md R40; assumption 5). -/
theorem State.Inv.afterReset {s : State} (h : s.Inv) {d : BufferContents} (hd : d.Legal) : (s.afterReset d).Inv where
  buffers := hd
  lasterrReserved := zero_reserved
  stickyReserved := BitVec.zero_and
  port := h.port

/-- Settles O11: each of the four things a step can do keeps the invariants. -/
theorem everyStepKeepsTheInvariants : Obligations.EveryStepKeepsTheInvariants := by
  unfold Obligations.EveryStepKeepsTheInvariants
  intro s t h hstep
  rcases step_cases hstep with ⟨-, rfl⟩ | ⟨w, rest, i, hport, -, hexec⟩ | ⟨w, rest, e, hport, -, hillegal⟩ |
    ⟨d, rest, hport | ⟨w, hport⟩, rfl⟩
  · exact h
  · exact (h.setPort hport).exec hexec
  · cases e with
    | unlistedOpcode op => exact (h.setPort hport).raise hillegal
    | reservedField op => exact (h.setPort hport).raise hillegal
  · have hd : (HostInput.reset d).Legal := h.port _ (hport ▸ List.mem_cons_self)
    exact (h.setPort hport).afterReset hd
  · have hd : (HostInput.resetDuring w d).Legal := h.port _ (hport ▸ List.mem_cons_self)
    exact (h.setPort hport).afterReset hd

end Sys2Proof.Machine

/-! Proofs/ErrorRegisters.lean: `LASTERR` and `STICKY` influence no command but `SYS.RDCSR` of themselves (10_state.md R22,
60_exceptions.md R271). -/

namespace Sys2Proof.Machine

/-- The state with other contents of the two error registers. -/
def State.setErrors (s : State) (lasterr sticky : BitVec 32) : State := { s with lasterr := lasterr, sticky := sticky }

/-- Two outcomes are the same next state but possibly for `STICKY`; the responses are part of the state. -/
def EndsAlike (o o' : Host.Outcome State Fault Refusal) : Prop :=
  ∃ (t : State) (sticky' : BitVec 32), o = .next t ∧ o' = .next (t.setSticky sticky')

/-! How the operations shared by the commands end from `s` and from `s` with error registers `e` and `k`. -/

section EndsAlike

variable {s : State} {e k : BitVec 32}

/-- Two successes with the same value, from states that differ in the error registers only. -/
theorem EndsAlike.succeed {t t' : State} (v : BitVec 32) (h : t' = t.setErrors t'.lasterr t'.sticky) :
    EndsAlike (succeed t v) (succeed t' v) :=
  ⟨_, t'.sticky, rfl, by rw [h]; rfl⟩

/-- The same error, whose code and response do not depend on the registers before it. -/
theorem EndsAlike.raise (c : Cause) (info : BitVec 16) : EndsAlike (raise c info s) (raise c info (s.setErrors e k)) :=
  ⟨_, k ||| stickyBit c, rfl, rfl⟩

theorem EndsAlike.ite {b : Prop} [Decidable b] {o₁ o₁' o₂ o₂' : Host.Outcome State Fault Refusal}
    (h₁ : EndsAlike o₁ o₁') (h₂ : EndsAlike o₂ o₂') : EndsAlike (if b then o₁ else o₂) (if b then o₁' else o₂') := by
  split
  · exact h₁
  · exact h₂

/-- An operand check, then the rest of a command. -/
theorem EndsAlike.check {b : Prop} [Decidable b] {c : Cause} {info : BitVec 16}
    {o o' : Host.Outcome State Fault Refusal} (h : EndsAlike o o') :
    EndsAlike (if b then Machine.raise c info s else o) (if b then Machine.raise c info (s.setErrors e k) else o') :=
  .ite (.raise c info) h

theorem withSlot_endsAlike {n : Operand} {f f' : Color → Host.Outcome State Fault Refusal}
    (h : ∀ c, EndsAlike (f c) (f' c)) : EndsAlike (withSlot n s f) (withSlot n (s.setErrors e k) f') :=
  .check (h _)

theorem storeColor_endsAlike (n : Operand) (c : Color) :
    EndsAlike (storeColor n c s) (storeColor n c (s.setErrors e k)) := .succeed 0 rfl

theorem withTile_endsAlike {x y : Operand} {f f' : Nat → Host.Outcome State Fault Refusal}
    (h : ∀ slot, EndsAlike (f slot) (f' slot)) : EndsAlike (withTile x y s f) (withTile x y (s.setErrors e k) f') :=
  .check (.check (h _))

theorem storeTile_endsAlike (slot : Nat) (t : Tile) :
    EndsAlike (storeTile slot t s) (storeTile slot t (s.setErrors e k)) := .succeed 0 rfl

theorem withPayload_endsAlike {size : Nat} {o o' : Host.Outcome State Fault Refusal} (h : EndsAlike o o') :
    EndsAlike (withPayload size s o) (withPayload size (s.setErrors e k) o') := .check h

theorem storePayload_endsAlike (size : Nat) (cs : List Nat) (f : Nat → BitVec 8) :
    EndsAlike (storePayload size cs f s) (storePayload size cs f (s.setErrors e k)) := .succeed 0 rfl

/-- The registers that `SYS.RDCSR` reads other than the error registers (10_state.md R23, R26, R27). -/
theorem readCsr?_setErrors {n : Nat} (h0 : n ≠ 0) (h1 : n ≠ 1) : readCsr? n (s.setErrors e k) = readCsr? n s := by
  match n with
  | 0 => exact absurd rfl h0
  | 1 => exact absurd rfl h1
  | 2 | 3 | _ + 4 => rfl

/-- A command other than `SYS.RDCSR` of an error register ends alike, whatever the error registers hold. -/
theorem exec_endsAlike (i : Instr) (h0 : i ≠ .sysRdcsr 0) (h1 : i ≠ .sysRdcsr 1) :
    EndsAlike (exec i s) (exec i (s.setErrors e k)) := by
  cases i with
  | sysClrerr => exact .succeed 0 rfl
  | sysRdcsr n =>
    have hn0 : n.toNat ≠ 0 := fun h => h0 (congrArg Instr.sysRdcsr (BitVec.eq_of_toNat_eq h))
    have hn1 : n.toNat ≠ 1 := fun h => h1 (congrArg Instr.sysRdcsr (BitVec.eq_of_toNat_eq h))
    simp only [exec, execSysRdcsr, readCsr?_setErrors hn0 hn1]
    cases readCsr? n.toNat s with
    | some v => exact .succeed v rfl
    | none => exact .raise _ _
  | sysWrcsr n v => exact .ite (.succeed 0 rfl) (.ite (.succeed 0 rfl) (.raise _ _))
  | payRd a | strRd a | rbufRd a => exact .check (.succeed _ rfl)
  | payWr a b => exact .check (.check (.succeed 0 rfl))
  | strWr i v => exact .check (.succeed 0 rfl)
  | colSetr n v | colSetg n v | colSetb n v | colSetrawr n v | colSetrawg n v | colSetrawb n v =>
    exact withSlot_endsAlike fun _ => .check (storeColor_endsAlike _ _)
  | colSetraw n w => exact withSlot_endsAlike fun _ => storeColor_endsAlike _ _
  | colGetr n | colGetg n | colGetb n | colGetrawr n | colGetrawg n | colGetrawb n | colGetraw n | colGethex n =>
    exact withSlot_endsAlike fun _ => .succeed _ rfl
  | palDec | chrDec | grpDec | scrDec => exact withPayload_endsAlike (.succeed 0 rfl)
  | palEnc | chrEnc | grpEnc | scrEnc => exact storePayload_endsAlike _ _ _
  | chrGet t x y => exact .check (.check (.check (.check (.succeed _ rfl))))
  | chrSet t x y v => exact .check (.check (.check (.check (.check (.succeed 0 rfl)))))
  | chrResolve t p => exact .check (.check (.succeed 0 rfl))
  | grpGet x y => exact .check (.check (.succeed _ rfl))
  | grpSet x y v => exact .check (.check (.check (.succeed 0 rfl)))
  | scrGet x y | scrGetraw x y => exact withTile_endsAlike fun _ => .succeed _ rfl
  | scrSetraw x y w => exact withTile_endsAlike fun _ => storeTile_endsAlike _ _
  | scrSetchr x y v | scrSetpal x y v | scrSetflip x y f =>
    exact withTile_endsAlike fun _ => .check (storeTile_endsAlike _ _)
  | memDec =>
    have hlength : memLength (s.setErrors e k) = memLength s := rfl
    have herror : memSlotError (s.setErrors e k) = memSlotError s := rfl
    simp only [exec, execMemDec, hlength, herror]
    refine withPayload_endsAlike (.check ?_)
    generalize List.find? _ (List.range strCells) = bad
    cases bad with
    | some i => exact .raise _ _
    | none => exact .succeed 0 rfl
  | memEnc =>
    have hlength : (s.setErrors e k).strLen = s.strLen := rfl
    have hstr : (s.setErrors e k).str = s.str := rfl
    simp only [exec, execMemEnc, hlength, hstr]
    refine .check ?_
    generalize List.find? _ (List.range s.strLen.toNat) = bad
    cases bad with
    | some i => exact .raise _ _
    | none => exact storePayload_endsAlike _ _ _

end EndsAlike

/-- Settles O16: `EndsAlike` is the statement's conclusion. -/
theorem errorRegistersInfluenceNoOtherCommand : Obligations.ErrorRegistersInfluenceNoOtherCommand := by
  unfold Obligations.ErrorRegistersInfluenceNoOtherCommand
  intro i s e k h0 h1
  exact exec_endsAlike i h0 h1

end Sys2Proof.Machine

/-! Proofs/OperandDomain.lean: a command ends in a `RangeError` or an `IllegalCommand` exactly when an operand is
outside its domain (20_memory.md R69, 60_exceptions.md R261, R266). -/

namespace Sys2Proof.Machine

/-- An error of this cause reports an operand: its class is `RangeError` or `IllegalCommand` (60_exceptions.md R260). -/
abbrev Cause.ReportsOperand (c : Cause) : Prop := c.errorClass.number = 2 ∨ c.errorClass.number = 6

/-- The outcome is a next state, and it is an operand error exactly when `bad` holds. -/
def OperandErrorIff (bad : Prop) (o : Host.Outcome State Fault Refusal) : Prop :=
  ∃ t : State, o = .next t ∧ (bad ↔ codeClass t.lasterr = 2 ∨ codeClass t.lasterr = 6)

/-! How the operations that commands share contribute to `bad`: each operand check adds the condition it refuses, and
nothing else adds one. -/

section OperandErrorIff

variable {s : State} {bad : Prop} {o : Host.Outcome State Fault Refusal}

theorem OperandErrorIff.of_iff {bad' : Prop} (h : OperandErrorIff bad o) (hbad : bad' ↔ bad) :
    OperandErrorIff bad' o := by
  rwa [hbad]

/-- A success has the completion code 0, whose class is 0. -/
theorem OperandErrorIff.succeed {t : State} {v : BitVec 32} : OperandErrorIff False (succeed t v) :=
  ⟨_, rfl, by rw [State.complete_lasterr]; decide⟩

theorem OperandErrorIff.raise (c : Cause) (info : BitVec 16) : OperandErrorIff c.ReportsOperand (raise c info s) :=
  ⟨_, rfl, by rw [State.complete_lasterr, codeClass_failureCode]⟩

/-- An error that is found in the state, not in an operand. -/
theorem OperandErrorIff.raise_other {c : Cause} (hc : ¬c.ReportsOperand) (info : BitVec 16) :
    OperandErrorIff False (Machine.raise c info s) :=
  (OperandErrorIff.raise c info).of_iff (iff_of_false id hc)

/-- An operand check, then the rest of a command. -/
theorem OperandErrorIff.check {b : Prop} [Decidable b] {c : Cause} {info : BitVec 16} (h : OperandErrorIff bad o)
    (hc : c.ReportsOperand := by decide) : OperandErrorIff (b ∨ bad) (if b then Machine.raise c info s else o) := by
  split
  · next hb => exact (OperandErrorIff.raise c info).of_iff (iff_of_true (.inl hb) hc)
  · next hb => exact h.of_iff (or_iff_right hb)

/-- A check of the state, then the rest of a command. -/
theorem OperandErrorIff.check_other {b : Prop} [Decidable b] {c : Cause} {info : BitVec 16}
    (h : OperandErrorIff False o) (hc : ¬c.ReportsOperand := by decide) :
    OperandErrorIff False (if b then Machine.raise c info s else o) := by
  split
  · exact .raise_other hc info
  · exact h

theorem withSlot_operandErrorIff {n : Operand} {k : Color → Host.Outcome State Fault Refusal}
    (h : ∀ c, OperandErrorIff bad (k c)) : OperandErrorIff (n.toNat > 255 ∨ bad) (withSlot n s k) :=
  .check (h _)

theorem withTile_operandErrorIff {x y : Operand} {k : Nat → Host.Outcome State Fault Refusal}
    (h : ∀ slot, OperandErrorIff bad (k slot)) :
    OperandErrorIff (x.toNat > 63 ∨ y.toNat > 63 ∨ bad) (withTile x y s k) :=
  .check (.check (h _))

/-- The payload length is state, so its error is none of an operand (20_memory.md R66). -/
theorem withPayload_operandErrorIff {size : Nat} (h : OperandErrorIff False o) :
    OperandErrorIff False (withPayload size s o) := .check_other h

/-- `SYS.RDCSR` refuses the numbers without a register (46_port_system.md R245). -/
theorem execSysRdcsr_operandErrorIff (n : Operand) : OperandErrorIff (n.toNat > 3) (execSysRdcsr n s) := by
  rw [execSysRdcsr]
  cases hread : readCsr? n.toNat s with
  | some v => exact OperandErrorIff.succeed.of_iff (by simp [← readCsr?_eq_none (s := s), hread])
  | none => exact (OperandErrorIff.raise .illCsr n).of_iff (iff_of_true (readCsr?_eq_none.mp hread) (.inr rfl))

/-- `SYS.WRCSR` refuses every number but 2 and 3 (46_port_system.md R246). -/
theorem execSysWrcsr_operandErrorIff (n v : Operand) : OperandErrorIff (n ≠ 2 ∧ n ≠ 3) (execSysWrcsr n v s) := by
  rw [execSysWrcsr]
  split
  · next h2 => exact OperandErrorIff.succeed.of_iff (by simp [h2])
  · next h2 =>
    split
    · next h3 => exact OperandErrorIff.succeed.of_iff (by simp [h3])
    · next h3 => exact (OperandErrorIff.raise .illCsr n).of_iff (iff_of_true ⟨h2, h3⟩ (.inr rfl))

/-- Every error that `MEM.DEC` finds at a code slot is an `EncodingError` (45_stringslot.md R223). -/
theorem memSlotError_not_reportsOperand (count i : Nat) :
    ¬((memSlotError s count i).getD .encStrNocode).ReportsOperand := by
  rw [memSlotError]
  split_ifs <;> decide

theorem execMemDec_operandErrorIff : OperandErrorIff False (execMemDec s) := by
  refine withPayload_operandErrorIff (.check_other ?_)
  split
  · exact .raise_other (memSlotError_not_reportsOperand _ _) _
  · exact .succeed

theorem execMemEnc_operandErrorIff : OperandErrorIff False (execMemEnc s) := by
  refine .check_other ?_
  split
  · exact .raise_other (by decide) _
  · exact .succeed

/-- The operand checks of each command refuse exactly what `Instr.inDomain` leaves out. The cell index of `CHR.GET` and
`CHR.SET` lets only `y = 0` through (42_charbank.md R153, R154). -/
theorem exec_operandErrorIff (i : Instr) : OperandErrorIff (i.inDomain = false) (exec i s) := by
  cases i with
  | sysRdcsr n => exact (execSysRdcsr_operandErrorIff n).of_iff (by grind [Instr.inDomain])
  | sysWrcsr n v => exact (execSysWrcsr_operandErrorIff n v).of_iff (by simp [Instr.inDomain, ← BitVec.toNat_inj])
  | payRd a | strRd a | rbufRd a | strWr a _ =>
    exact (OperandErrorIff.check .succeed).of_iff (by grind [Instr.inDomain])
  | payWr a b => exact (OperandErrorIff.check (.check .succeed)).of_iff (by grind [Instr.inDomain])
  | colSetr n v | colSetg n v | colSetb n v | colSetrawr n v | colSetrawg n v | colSetrawb n v =>
    exact (withSlot_operandErrorIff fun _ => .check .succeed).of_iff (by grind [Instr.inDomain])
  | colGetr n | colGetg n | colGetb n | colGetrawr n | colGetrawg n | colGetrawb n | colGetraw n | colGethex n
  | colSetraw n w =>
    exact (withSlot_operandErrorIff fun _ => .succeed).of_iff (by grind [Instr.inDomain])
  | chrGet t x y =>
    exact (OperandErrorIff.check (.check (.check (.check .succeed)))).of_iff (by grind [Instr.inDomain, cellIndex])
  | chrSet t x y v =>
    exact (OperandErrorIff.check (.check (.check (.check (.check .succeed))))).of_iff
      (by grind [Instr.inDomain, cellIndex])
  | chrResolve t p | grpGet x y =>
    exact (OperandErrorIff.check (.check .succeed)).of_iff (by grind [Instr.inDomain])
  | grpSet x y v =>
    exact (OperandErrorIff.check (.check (.check .succeed))).of_iff (by grind [Instr.inDomain])
  | scrGet x y | scrGetraw x y | scrSetraw x y w =>
    exact (withTile_operandErrorIff fun _ => .succeed).of_iff (by grind [Instr.inDomain])
  | scrSetchr x y v | scrSetpal x y v | scrSetflip x y f =>
    exact (withTile_operandErrorIff fun _ => .check .succeed).of_iff (by grind [Instr.inDomain])
  | sysClrerr | palEnc | chrEnc | grpEnc | scrEnc => exact OperandErrorIff.succeed.of_iff (by simp [Instr.inDomain])
  | palDec | chrDec | grpDec | scrDec =>
    exact (withPayload_operandErrorIff .succeed).of_iff (by simp [Instr.inDomain])
  | memDec => exact execMemDec_operandErrorIff.of_iff (by simp [Instr.inDomain])
  | memEnc => exact execMemEnc_operandErrorIff.of_iff (by simp [Instr.inDomain])

end OperandErrorIff

/-- Settles O17: `OperandErrorIff` is the statement's conclusion. -/
theorem operandErrorsAreExactlyTheDomainErrors : Obligations.OperandErrorsAreExactlyTheDomainErrors := by
  unfold Obligations.OperandErrorsAreExactlyTheDomainErrors
  intro i s
  exact exec_operandErrorIff i

end Sys2Proof.Machine

/-! Proofs/CommandCodec.lean: the decoder and the encoder undo each other, and the decoder rejects exactly the illegal
words (30_encoding.md R91 to R97). -/

namespace Sys2Proof

/-- Decoding a word that is built from its fields needs no field to be cut out (30_encoding.md R91). -/
theorem decode_commandWord (op : BitVec 8) (a b c d : Operand) :
    decode (commandWord op a b c d) = decodeFields op a b c d := by
  obtain ⟨hop, ha, hb, hc, hd⟩ := fields_commandWord op a b c d
  rw [decode, hop, ha, hb, hc, hd]

/-- For each constructor the table's row of its opcode uses as many fields as `encode` fills, and builds that command
from them (30_encoding.md R93). -/
theorem decode_encode (i : Instr) : decode (encode i) = .ok i := by
  cases i <;> exact (decode_commandWord _ _ _ _ _).trans rfl

/-- Settles O1. -/
theorem decodeOfEncodeIsTheCommand : Obligations.DecodeOfEncodeIsTheCommand := by
  unfold Obligations.DecodeOfEncodeIsTheCommand
  exact decode_encode

/-! One equation per way that the decoder ends (30_encoding.md R97). -/

theorem decode_of_unlisted {w : CommandWord} (h : opcodeRow? (opField w) = none) :
    decode w = .error (.unlistedOpcode (opField w)) := by
  simp only [decode, decodeFields, h]

theorem decode_of_listed {w : CommandWord} {row : OpcodeRow} (h : opcodeRow? (opField w) = some row) :
    decode w = if unusedFieldsZero row.operands (a0Field w) (a1Field w) (a2Field w) (a3Field w)
      then .ok (row.build (a0Field w) (a1Field w) (a2Field w) (a3Field w))
      else .error (.reservedField (opField w)) := by
  simp only [decode, decodeFields, h]

/-- A word that selects a command has its opcode in a row of the table, the fields that the row leaves unused zero, and
selects what the row builds. -/
theorem decode_eq_ok {w : CommandWord} {i : Instr} (h : decode w = .ok i) :
    ∃ row, opcodeRow? (opField w) = some row ∧
      unusedFieldsZero row.operands (a0Field w) (a1Field w) (a2Field w) (a3Field w) = true ∧
      row.build (a0Field w) (a1Field w) (a2Field w) (a3Field w) = i := by
  cases hrow : opcodeRow? (opField w) with
  | none =>
    rw [decode_of_unlisted hrow] at h
    cases h
  | some row =>
    rw [decode_of_listed hrow] at h
    split at h
    · next hzero => exact ⟨row, rfl, hzero, Except.ok.inj h⟩
    · cases h

/-- Row by row of the table: the encoder fills the fields that the row uses and leaves the others zero (30_encoding.md
R93, R94). -/
theorem encode_build : ∀ row ∈ opcodeTable, ∀ a b c d : Operand, unusedFieldsZero row.operands a b c d = true →
    encode (row.build a b c d) = commandWord row.opcode a b c d := by
  simp only [opcodeTable, sysRows, portRows, colRows, palChrRows, grpRows, scrMemRows, List.forall_mem_append,
    List.forall_mem_cons]
  simp +contextual [encode, unusedFieldsZero]

/-- Settles O2: the row that the decoder finds fixes the opcode and the unused fields, and a word is its fields. -/
theorem decodedCommandEncodesToItsWord : Obligations.DecodedCommandEncodesToItsWord := by
  unfold Obligations.DecodedCommandEncodesToItsWord
  intro w i h
  obtain ⟨row, hrow, hzero, rfl⟩ := decode_eq_ok h
  have hmem : row ∈ opcodeTable := List.mem_of_find?_eq_some hrow
  have hop : row.opcode = opField w := by simpa using List.find?_some hrow
  rw [encode_build row hmem _ _ _ _ hzero, hop, commandWord_fields]

/-! The checks of WellFormed.lean are those of the decoder (30_encoding.md R94, R95). -/

theorem usedOperands_eq (w : CommandWord) : usedOperands (w.toNat / 2 ^ 64) =
    (opcodeRow? (opField w)).map (·.operands) := by
  rw [opcodeRow?_operands, toNat_opField]

theorem opcodeListed_eq (w : CommandWord) : w.opcodeListed = (opcodeRow? (opField w)).isSome := by
  rw [CommandWord.opcodeListed, usedOperands_eq, Option.isSome_map]

theorem unusedZero_eq {w : CommandWord} {row : OpcodeRow} (h : opcodeRow? (opField w) = some row) :
    w.unusedZero = unusedFieldsZero row.operands (a0Field w) (a1Field w) (a2Field w) (a3Field w) := by
  have hused : usedOperands (w.toNat / 2 ^ 64) = some row.operands := by rw [usedOperands_eq, h]; rfl
  simp only [CommandWord.unusedZero, hused]
  exact (unusedFieldsZero_eq w (usedOperands_le hused)).symm

theorem decode_of_opcode_not_listed {w : CommandWord} (h : w.opcodeListed = false) :
    decode w = .error (.unlistedOpcode (opField w)) := by
  rw [opcodeListed_eq, Option.isSome_eq_false_iff, Option.isNone_iff_eq_none] at h
  exact decode_of_unlisted h

theorem decode_of_opcodeListed {w : CommandWord} (h : w.opcodeListed = true) :
    ∃ i, decode w = if w.unusedZero then .ok i else .error (.reservedField (opField w)) := by
  rw [opcodeListed_eq] at h
  obtain ⟨row, hrow⟩ := Option.isSome_iff_exists.mp h
  exact ⟨_, by rw [unusedZero_eq hrow, decode_of_listed hrow]⟩

theorem decode_of_unused_not_zero {w : CommandWord} (h : w.opcodeListed = true) (hunused : w.unusedZero = false) :
    decode w = .error (.reservedField (opField w)) := by
  obtain ⟨i, hi⟩ := decode_of_opcodeListed h
  rw [hi, hunused]
  rfl

/-- Settles O3. -/
theorem decoderAcceptsExactlyTheLegalWords : Obligations.DecoderAcceptsExactlyTheLegalWords := by
  unfold Obligations.DecoderAcceptsExactlyTheLegalWords
  refine fun w => ⟨decode_of_opcode_not_listed, decode_of_unused_not_zero, fun hlisted hzero => ?_⟩
  obtain ⟨i, hi⟩ := decode_of_opcodeListed hlisted
  exact ⟨i, by rw [hi, hzero]; rfl⟩

/-- Settles O4: each word is the encoder's word of its command. -/
theorem specWordsDecodeToTheirCommands : Obligations.SpecWordsDecodeToTheirCommands := by
  unfold Obligations.SpecWordsDecodeToTheirCommands
  exact ⟨decode_encode (.chrSet 0 5 0 15), decode_encode (.scrSetchr 10 40 1023), decode_encode (.colSetr 3 100),
    decode_encode (.sysWrcsr 2 49152), decode_encode (.payRd 22820), decode_encode (.grpGet 100 100),
    decode_encode .palDec, decode_encode .memEnc⟩

end Sys2Proof

namespace Sys2Proof.Machine

/-- Settles O5. -/
theorem stepRunsTheDecodedCommand : Obligations.StepRunsTheDecodedCommand := by
  unfold Obligations.StepRunsTheDecodedCommand
  intro s w rest i hport hdecode
  exact step_command hport hdecode

/-- The info of an illegal word's error is its opcode (30_encoding.md R94, R95). -/
theorem setWidth_opField (w : CommandWord) : (opField w).setWidth 16 = BitVec.ofNat 16 (w.toNat / 2 ^ 64) := by
  rw [← toNat_opField, BitVec.ofNat_toNat]

/-- Settles O6: the decoder's two rejections, each with the error that `raiseIllegal` gives it. -/
theorem illegalWordsRaiseIllegalCommand : Obligations.IllegalWordsRaiseIllegalCommand := by
  unfold Obligations.IllegalWordsRaiseIllegalCommand
  intro s w rest hport
  rw [← setWidth_opField]
  refine ⟨fun hlisted => ?_, fun hlisted hunused => ?_⟩
  · rw [step_illegal hport (decode_of_opcode_not_listed hlisted)]
    exact raise_failsWith_of _ _ rfl rfl
  · rw [step_illegal hport (decode_of_unused_not_zero hlisted hunused)]
    exact raise_failsWith_of _ _ rfl rfl

end Sys2Proof.Machine

/-! Proofs/PseudoInstructions.lean: what the six pseudo-instructions expand to (30_encoding.md R98, R99). -/

namespace Sys2Proof.Machine

/-- A mnemonic whose row of the table takes two operands assembles to the command that the row builds from them, for all
operands (30_encoding.md R98). -/
theorem assemble_two {mnemonic : String} {op : BitVec 8} {command : Operand → Operand → Instr}
    (h : opcodeTable.find? (·.mnemonic == mnemonic) = some ⟨mnemonic, op, 2, fun a b _ _ => command a b⟩)
    (a b : Operand) : assemble mnemonic [a.toNat, b.toNat] = some (command a b) := by
  have hrange : a.toNat ≤ 65535 ∧ b.toNat ≤ 65535 := by omega
  simp [assemble, h, hrange]

/-! The commands with two operands that R99 names. -/

theorem assemble_sysWrcsr (n v : Operand) : assemble "SYS.WRCSR" [n.toNat, v.toNat] = some (.sysWrcsr n v) :=
  assemble_two rfl n v

theorem assemble_payWr (a b : Operand) : assemble "PAY.WR" [a.toNat, b.toNat] = some (.payWr a b) :=
  assemble_two rfl a b

theorem assemble_strWr (i v : Operand) : assemble "STR.WR" [i.toNat, v.toNat] = some (.strWr i v) :=
  assemble_two rfl i v

theorem assemble_colSetr (n v : Operand) : assemble "COL.SETR" [n.toNat, v.toNat] = some (.colSetr n v) :=
  assemble_two rfl n v

theorem assemble_colSetg (n v : Operand) : assemble "COL.SETG" [n.toNat, v.toNat] = some (.colSetg n v) :=
  assemble_two rfl n v

theorem assemble_colSetb (n v : Operand) : assemble "COL.SETB" [n.toNat, v.toNat] = some (.colSetb n v) :=
  assemble_two rfl n v

/-- A run of stores: value number `k` goes to index `base + k`, as long as that is an operand (assumption 16). -/
theorem assembleRun_eq {mnemonic : String} {command : Operand → Operand → Instr}
    (h : ∀ a b : Operand, assemble mnemonic [a.toNat, b.toNat] = some (command a b)) (vs : List Operand) (base : Nat)
    (hfit : base + vs.length ≤ 65536) : assembleRun mnemonic base (vs.map BitVec.toNat) =
      some (vs.zipIdx.map fun p => command (BitVec.ofNat 16 (base + p.2)) p.1) := by
  induction vs generalizing base with
  | nil => rfl
  | cons v vs ih =>
    rw [List.length_cons] at hfit
    have hbase : base = (BitVec.ofNat 16 base).toNat := (Nat.mod_eq_of_lt (by omega)).symm
    have hfirst : assemble mnemonic [base, v.toNat] = some (command (BitVec.ofNat 16 base) v) := by
      conv_lhs => rw [hbase]
      exact h _ v
    simp [assembleRun, hfirst, ih (base + 1) (by omega), List.zipIdx_succ, Nat.add_assoc, Nat.add_comm 1]

/-! The cases of `expandPseudo`, one for each name (30_encoding.md R99). -/

theorem expandPseudo_sysRderr : expandPseudo "SYS.RDERR" [] = some [.sysRdcsr 0] := rfl

theorem expandPseudo_payFill (base v : Nat) (vs : List Nat) :
    expandPseudo "PAY.FILL" (base :: v :: vs) = assembleRun "PAY.WR" base (v :: vs) := rfl

theorem expandPseudo_strPut (base v : Nat) (vs : List Nat) :
    expandPseudo "STR.PUT" (base :: v :: vs) = assembleRun "STR.WR" base (v :: vs) := rfl

theorem expandPseudo_payLen (n : Operand) : expandPseudo "PAY.LEN" [n.toNat] = some [.sysWrcsr 2 n] := by
  have h : assemble "SYS.WRCSR" [2, n.toNat] = some (.sysWrcsr 2 n) := assemble_sysWrcsr 2 n
  simp [expandPseudo, h]

theorem expandPseudo_strLen (n : Operand) : expandPseudo "STR.LEN" [n.toNat] = some [.sysWrcsr 3 n] := by
  have h : assemble "SYS.WRCSR" [3, n.toNat] = some (.sysWrcsr 3 n) := assemble_sysWrcsr 3 n
  simp [expandPseudo, h]

theorem expandPseudo_colSetrgb (n r g b : Operand) :
    expandPseudo "COL.SETRGB" [n.toNat, r.toNat, g.toNat, b.toNat] =
      some [.colSetr n r, .colSetg n g, .colSetb n b] := by
  simp [expandPseudo, assemble_colSetr, assemble_colSetg, assemble_colSetb]

/-- Settles O60: a run of stores by `assembleRun_eq`, the others by the commands they assemble. -/
theorem pseudoInstructionsExpandToTheirCommands : Obligations.PseudoInstructionsExpandToTheirCommands := by
  unfold Obligations.PseudoInstructionsExpandToTheirCommands
  refine ⟨expandPseudo_sysRderr, fun n => ⟨expandPseudo_payLen n, expandPseudo_strLen n⟩,
    expandPseudo_colSetrgb, ?_⟩
  intro base vs hne hfit
  obtain ⟨v, vs, rfl⟩ := List.exists_cons_of_ne_nil hne
  exact ⟨(expandPseudo_payFill base _ _).trans (assembleRun_eq assemble_payWr (v :: vs) base hfit),
    (expandPseudo_strPut base _ _).trans (assembleRun_eq assemble_strWr (v :: vs) base hfit)⟩

end Sys2Proof.Machine

/-! Proofs/ColourWord.lean: the quantizer's ranges and the colour word (40_color.md R110 to R117). -/

namespace Sys2Proof.Machine

/-! The code of a value, range by range (40_color.md R110, R111). -/

theorem rangeCode_nil (v : Nat) : rangeCode [] v = 0 := rfl

theorem rangeCode_cons (lo hi code v : Nat) (rest : List QRange) :
    rangeCode ((lo, hi, code) :: rest) v = if lo ≤ v ∧ v ≤ hi then code else rangeCode rest v := by
  by_cases h : lo ≤ v ∧ v ≤ hi
  · simp [rangeCode, h]
  · rw [if_neg h]
    simp only [rangeCode, List.find?_cons, ← Bool.decide_and, decide_eq_false h]

/-- Each red or blue range begins where the one before it ends, so its upper end alone decides. -/
theorem rangeCode_q5Ranges {v : Nat} (hv : v ≤ 255) :
    rangeCode q5Ranges v = if v ≤ 23 then 0 else if v ≤ 55 then 1 else if v ≤ 95 then 2 else if v ≤ 127 then 3
      else if v ≤ 159 then 4 else if v ≤ 199 then 5 else if v ≤ 231 then 6 else 7 := by
  simp only [q5Ranges, rangeCode_cons, rangeCode_nil]
  grind

/-- Each green range begins where the one before it ends, so its upper end alone decides. -/
theorem rangeCode_q6Ranges {v : Nat} (hv : v ≤ 255) :
    rangeCode q6Ranges v = if v ≤ 43 then 0 else if v ≤ 127 then 1 else if v ≤ 211 then 2 else 3 := by
  simp only [q6Ranges, rangeCode_cons, rangeCode_nil]
  grind

/-- Settles O25: the codes of the two range lists, as bytes. -/
theorem quantizerFollowsItsRanges : Obligations.QuantizerFollowsItsRanges := by
  unfold Obligations.QuantizerFollowsItsRanges
  intro v
  have hv : v.toNat ≤ 255 := Nat.le_of_lt_succ v.isLt
  rw [q5, q6, rangeCode_q5Ranges hv, rangeCode_q6Ranges hv]
  simp only [apply_ite (BitVec.ofNat 8), and_self]

/-! The raw channels of a colour as numbers (40_color.md R113). -/

theorem toNat_rawR (c : Color) : (rawR c).toNat = c.r.toNat / 8 := by
  simp only [rawR, BitVec.toNat_setWidth, BitVec.toNat_ushiftRight, Nat.shiftRight_eq_div_pow]
  omega

theorem toNat_rawG (c : Color) : (rawG c).toNat = c.g.toNat / 4 := by
  simp only [rawG, BitVec.toNat_setWidth, BitVec.toNat_ushiftRight, Nat.shiftRight_eq_div_pow]
  omega

theorem toNat_rawB (c : Color) : (rawB c).toNat = c.b.toNat / 8 := by
  simp only [rawB, BitVec.toNat_setWidth, BitVec.toNat_ushiftRight, Nat.shiftRight_eq_div_pow]
  omega

/-! The fields of a colour word as numbers (40_color.md R115). -/

theorem toNat_wordRed (w : BitVec 16) : (wordRed w).toNat = w.toNat % 32 := by
  simp [wordRed]

theorem toNat_wordBlue (w : BitVec 16) : (wordBlue w).toNat = w.toNat / 1024 % 32 := by
  simp [wordBlue, Nat.shiftRight_eq_div_pow]

/-- Raw green is word bits 9:5 above word bit 15 (90_conflicts.md C1). -/
theorem wordGreen_eq_or (w : BitVec 16) :
    wordGreen w = (w.extractLsb' 5 5).setWidth 6 <<< 1 ||| (w.extractLsb' 15 1).setWidth 6 := by
  ext i hi
  interval_cases i <;> simp [wordGreen]

theorem toNat_wordGreen (w : BitVec 16) : (wordGreen w).toNat = w.toNat / 32 % 32 * 2 + w.toNat / 32768 := by
  have hw := w.isLt
  have hupper : ((w.extractLsb' 5 5).setWidth 6 <<< 1).toNat = (w.toNat / 32 % 32) <<< 1 := by
    simp only [BitVec.toNat_shiftLeft, BitVec.toNat_setWidth, BitVec.extractLsb'_toNat, Nat.shiftRight_eq_div_pow,
      Nat.shiftLeft_eq]
    omega
  have hlowest : ((w.extractLsb' 15 1).setWidth 6).toNat = w.toNat / 32768 := by
    simp only [BitVec.toNat_setWidth, BitVec.extractLsb'_toNat, Nat.shiftRight_eq_div_pow]
    omega
  rw [wordGreen_eq_or, BitVec.toNat_or, hupper, hlowest, ← Nat.shiftLeft_add_eq_or_of_lt (by omega), Nat.shiftLeft_eq]

/-- The three fields cover the colour word (40_color.md R114). -/
theorem eq_of_wordFields_eq {w w' : BitVec 16} (hr : wordRed w = wordRed w') (hg : wordGreen w = wordGreen w')
    (hb : wordBlue w = wordBlue w') : w = w' := by
  have hdiv (x : Nat) : x / 1024 = x / 32 / 32 ∧ x / 32768 = x / 32 / 32 / 32 := by
    simp only [Nat.div_div_eq_div_mul, Nat.reduceMul, and_self]
  simp only [← BitVec.toNat_inj, toNat_wordRed, toNat_wordGreen, toNat_wordBlue, hdiv] at hr hg hb ⊢
  omega

/-! A raw value is shifted into its channel's range before it is quantized (40_color.md R116). -/

theorem storeRaw5_eq (v : BitVec 5) : storeRaw5 v = q5 (BitVec.ofNat 8 (v.toNat * 8)) := by
  have hshift : v.setWidth 8 <<< 3 = BitVec.ofNat 8 (v.toNat * 8) := by
    apply BitVec.eq_of_toNat_eq
    simp [Nat.shiftLeft_eq]
  rw [storeRaw5, hshift]

theorem storeRaw6_eq (v : BitVec 6) : storeRaw6 v = q6 (BitVec.ofNat 8 (v.toNat * 4)) := by
  have hshift : v.setWidth 8 <<< 2 = BitVec.ofNat 8 (v.toNat * 4) := by
    apply BitVec.eq_of_toNat_eq
    simp [Nat.shiftLeft_eq]
  rw [storeRaw6, hshift]

/-- Settles O26: the fields of a packed word are the raw channels, and unpacking stores the fields as raw values. -/
theorem colourWordHasTheFormulasBitMap : Obligations.ColourWordHasTheFormulasBitMap := by
  unfold Obligations.ColourWordHasTheFormulasBitMap
  refine ⟨fun c => ?_, fun w => ?_⟩
  · have hred : (packRaw c).toNat % 32 = c.r.toNat / 8 := by
      rw [← toNat_wordRed, wordRed_packRaw, toNat_rawR]
    have hblue : (packRaw c).toNat / 1024 % 32 = c.b.toNat / 8 := by
      rw [← toNat_wordBlue, wordBlue_packRaw, toNat_rawB]
    have hgreen : (packRaw c).toNat / 32 % 32 * 2 + (packRaw c).toNat / 32768 = c.g.toNat / 4 := by
      rw [← toNat_wordGreen, wordGreen_packRaw, toNat_rawG]
    exact ⟨hred, hblue, by omega, by omega⟩
  · rw [← toNat_wordRed, ← toNat_wordGreen, ← toNat_wordBlue]
    exact ⟨storeRaw5_eq _, storeRaw6_eq _, storeRaw5_eq _⟩

/-- 40_color.md R117 (a). -/
theorem packRaw_fromRaw (w : BitVec 16) : packRaw (fromRaw w) = w :=
  eq_of_wordFields_eq (by rw [wordRed_packRaw, rawR_fromRaw]) (by rw [wordGreen_packRaw, rawG_fromRaw])
    (by rw [wordBlue_packRaw, rawB_fromRaw])

/-- 40_color.md R117 (b): a quantized channel is the stored value of its own raw value. -/
theorem fromRaw_packRaw {c : Color} (hc : c.Quantized) : fromRaw (packRaw c) = c := by
  obtain ⟨⟨r, hr⟩, ⟨g, hg⟩, ⟨b, hb⟩⟩ := hc
  have hred : storeRaw5 (rawR c) = c.r := by rw [rawR, ← hr, storeRaw5_of_q5]
  have hgreen : storeRaw6 (rawG c) = c.g := by rw [rawG, ← hg, storeRaw6_of_q6]
  have hblue : storeRaw5 (rawB c) = c.b := by rw [rawB, ← hb, storeRaw5_of_q5]
  rw [fromRaw, wordRed_packRaw, wordGreen_packRaw, wordBlue_packRaw, hred, hgreen, hblue]

/-- Settles O27. -/
theorem colourPackingRoundTrips : Obligations.ColourPackingRoundTrips := by
  unfold Obligations.ColourPackingRoundTrips
  refine ⟨packRaw_fromRaw, fun c hc => fromRaw_packRaw hc, fun c d hr hg hb => ?_⟩
  rw [packRaw, packRaw, hr, hg, hb]

end Sys2Proof.Machine

/-! Proofs/ColourCommands.lean: the `COL` commands (40_color.md R118 to R133). -/

namespace Sys2Proof.Machine

/-! The two shapes of a `COL` command (40_color.md R133). `COL.SETRAW`, which refuses no word, is neither. -/

/-- A command that answers a function of its slot's colour. -/
def IsColGetter (i : Instr) (n : Operand) (f : Color → BitVec 32) : Prop :=
  ∀ s, exec i s = withSlot n s fun c => succeed s (f c)

/-- A command that updates its slot's colour with `f`, if its value is within the limit. -/
def IsColSetter (i : Instr) (n v : Operand) (limit : Nat) (cause : Cause) (f : Color → Color) : Prop :=
  ∀ s, exec i s = withSlot n s fun c => if v.toNat > limit then raise cause v s else storeColor n (f c) s

section Shapes

variable {i : Instr} {n v : Operand} {limit : Nat} {cause : Cause} {s : State}

theorem IsColGetter.succeeds {f : Color → BitVec 32} (h : IsColGetter i n f) (hn : n.toNat ≤ 255) :
    SucceedsWith (exec i s) s (f (Memory.read s.pal n.toNat)) := by
  rw [h, withSlot_of_le s _ hn]
  exact succeed_succeedsWith s _

theorem IsColGetter.fails_slot {f : Color → BitVec 32} (h : IsColGetter i n f) (hn : 255 < n.toNat) :
    FailsWith (exec i s) s 2 0x20 n := by
  rw [h]
  exact withSlot_fails s _ hn

variable {f : Color → Color}

theorem IsColSetter.succeeds (h : IsColSetter i n v limit cause f) (hn : n.toNat ≤ 255) (hv : v.toNat ≤ limit) :
    ∃ m, SucceedsWith (exec i s) { s with pal := m } 0 ∧ Memory.read m n.toNat = f (Memory.read s.pal n.toNat) ∧
      ∀ k, k ≠ n.toNat → Memory.read m k = Memory.read s.pal k := by
  rw [h, withSlot_of_le s _ hn, if_neg (Nat.not_lt.mpr hv)]
  exact storeColor_succeeds n _ s

theorem IsColSetter.fails_slot (h : IsColSetter i n v limit cause f) (hn : 255 < n.toNat) :
    FailsWith (exec i s) s 2 0x20 n := by
  rw [h]
  exact withSlot_fails s _ hn

/-- The slot is checked before the value. -/
theorem IsColSetter.fails_value (h : IsColSetter i n v limit cause f) (hn : n.toNat ≤ 255) (hv : limit < v.toNat) :
    FailsWith (exec i s) s cause.errorClass.number cause.number v := by
  rw [h, withSlot_of_le s _ hn, if_pos hv]
  exact raise_failsWith cause v s

end Shapes

/-! Which shape each command has, in the order of the rules. -/

theorem colSetr_isColSetter (n v : Operand) :
    IsColSetter (.colSetr n v) n v 255 .rngColChan8 fun c => { c with r := q5 (v.setWidth 8) } := fun _ => rfl

theorem colSetg_isColSetter (n v : Operand) :
    IsColSetter (.colSetg n v) n v 255 .rngColChan8 fun c => { c with g := q6 (v.setWidth 8) } := fun _ => rfl

theorem colSetb_isColSetter (n v : Operand) :
    IsColSetter (.colSetb n v) n v 255 .rngColChan8 fun c => { c with b := q5 (v.setWidth 8) } := fun _ => rfl

theorem colGetr_isColGetter (n : Operand) : IsColGetter (.colGetr n) n fun c => c.r.setWidth 32 := fun _ => rfl

theorem colGetg_isColGetter (n : Operand) : IsColGetter (.colGetg n) n fun c => c.g.setWidth 32 := fun _ => rfl

theorem colGetb_isColGetter (n : Operand) : IsColGetter (.colGetb n) n fun c => c.b.setWidth 32 := fun _ => rfl

theorem colSetrawr_isColSetter (n v : Operand) :
    IsColSetter (.colSetrawr n v) n v 31 .rngColRaw5 fun c => { c with r := storeRaw5 (v.setWidth 5) } := fun _ => rfl

theorem colSetrawg_isColSetter (n v : Operand) :
    IsColSetter (.colSetrawg n v) n v 63 .rngColRaw6 fun c => { c with g := storeRaw6 (v.setWidth 6) } := fun _ => rfl

theorem colSetrawb_isColSetter (n v : Operand) :
    IsColSetter (.colSetrawb n v) n v 31 .rngColRaw5 fun c => { c with b := storeRaw5 (v.setWidth 5) } := fun _ => rfl

theorem colGetrawr_isColGetter (n : Operand) : IsColGetter (.colGetrawr n) n fun c => (rawR c).setWidth 32 :=
  fun _ => rfl

theorem colGetrawg_isColGetter (n : Operand) : IsColGetter (.colGetrawg n) n fun c => (rawG c).setWidth 32 :=
  fun _ => rfl

theorem colGetrawb_isColGetter (n : Operand) : IsColGetter (.colGetrawb n) n fun c => (rawB c).setWidth 32 :=
  fun _ => rfl

theorem colGetraw_isColGetter (n : Operand) : IsColGetter (.colGetraw n) n fun c => (packRaw c).setWidth 32 :=
  fun _ => rfl

theorem colGethex_isColGetter (n : Operand) : IsColGetter (.colGethex n) n colorHex := fun _ => rfl

theorem exec_colSetraw (n w : Operand) (s : State) :
    exec (.colSetraw n w) s = withSlot n s fun _ => storeColor n (fromRaw w) s := rfl

/-- Settles O28: the three commands are setters with limit 255. -/
theorem colSetChannelStoresTheQuantizedValue : Obligations.ColSetChannelStoresTheQuantizedValue := by
  unfold Obligations.ColSetChannelStoresTheQuantizedValue
  intro n v s
  refine ⟨decode_encode (.colSetr n v), decode_encode (.colSetg n v), decode_encode (.colSetb n v),
    fun hn hv => ?_, fun i hi => ?_⟩
  · rw [BitVec.ofNat_toNat]
    exact ⟨(colSetr_isColSetter n v).succeeds hn hv, (colSetg_isColSetter n v).succeeds hn hv,
      (colSetb_isColSetter n v).succeeds hn hv⟩
  · have hsetter : ∃ f, IsColSetter i n v 255 .rngColChan8 f := by
      fin_cases hi
      exacts [⟨_, colSetr_isColSetter n v⟩, ⟨_, colSetg_isColSetter n v⟩, ⟨_, colSetb_isColSetter n v⟩]
    obtain ⟨f, hf⟩ := hsetter
    exact ⟨hf.fails_slot, hf.fails_value⟩

/-- Settles O29: the three commands are getters of the stored channels. -/
theorem colGetChannelReadsTheStoredValue : Obligations.ColGetChannelReadsTheStoredValue := by
  unfold Obligations.ColGetChannelReadsTheStoredValue
  intro n s
  refine ⟨decode_encode (.colGetr n), decode_encode (.colGetg n), decode_encode (.colGetb n),
    fun hn => ?_, fun i hi hn => ?_⟩
  · simp only [BitVec.ofNat_toNat]
    exact ⟨(colGetr_isColGetter n).succeeds hn, (colGetg_isColGetter n).succeeds hn,
      (colGetb_isColGetter n).succeeds hn⟩
  · fin_cases hi
    exacts [(colGetr_isColGetter n).fails_slot hn, (colGetg_isColGetter n).fails_slot hn,
      (colGetb_isColGetter n).fails_slot hn]

/-- A raw 5-bit operand in range loses nothing when it is cut to 5 bits (40_color.md R116). -/
theorem storeRaw5_setWidth {v : Operand} (hv : v.toNat ≤ 31) :
    storeRaw5 (v.setWidth 5) = q5 (BitVec.ofNat 8 (v.toNat * 8)) := by
  rw [storeRaw5_eq, BitVec.toNat_setWidth, Nat.mod_eq_of_lt (Nat.lt_succ_of_le hv)]

/-- A raw 6-bit operand in range loses nothing when it is cut to 6 bits (40_color.md R116). -/
theorem storeRaw6_setWidth {v : Operand} (hv : v.toNat ≤ 63) :
    storeRaw6 (v.setWidth 6) = q6 (BitVec.ofNat 8 (v.toNat * 4)) := by
  rw [storeRaw6_eq, BitVec.toNat_setWidth, Nat.mod_eq_of_lt (Nat.lt_succ_of_le hv)]

/-- Settles O30: the three commands are setters, with limits 31, 63 and 31. -/
theorem colSetRawChannelStoresTheQuantizedValue : Obligations.ColSetRawChannelStoresTheQuantizedValue := by
  unfold Obligations.ColSetRawChannelStoresTheQuantizedValue
  intro n v s
  have hr := colSetrawr_isColSetter n v
  have hg := colSetrawg_isColSetter n v
  have hb := colSetrawb_isColSetter n v
  refine ⟨decode_encode (.colSetrawr n v), decode_encode (.colSetrawg n v), decode_encode (.colSetrawb n v),
    fun hn => ⟨fun hv => ?_, fun hv => ?_, fun hv => ⟨hr.fails_value hn hv, hb.fails_value hn hv⟩,
      hg.fails_value hn⟩, fun i hi hn => ?_⟩
  · rw [← storeRaw5_setWidth hv]
    exact ⟨hr.succeeds hn hv, hb.succeeds hn hv⟩
  · rw [← storeRaw6_setWidth hv]
    exact hg.succeeds hn hv
  · fin_cases hi
    exacts [hr.fails_slot hn, hg.fails_slot hn, hb.fails_slot hn]

/-- Settles O31: the three commands are getters of the raw channels. -/
theorem colGetRawChannelReadsTheRawValue : Obligations.ColGetRawChannelReadsTheRawValue := by
  unfold Obligations.ColGetRawChannelReadsTheRawValue
  intro n s
  have hr := colGetrawr_isColGetter n
  have hg := colGetrawg_isColGetter n
  have hb := colGetrawb_isColGetter n
  refine ⟨decode_encode (.colGetrawr n), decode_encode (.colGetrawg n), decode_encode (.colGetrawb n),
    fun hn => ?_, fun i hi hn => ?_⟩
  · simp only [← toNat_rawR, ← toNat_rawG, ← toNat_rawB, BitVec.ofNat_toNat]
    exact ⟨hr.succeeds hn, hg.succeeds hn, hb.succeeds hn⟩
  · fin_cases hi
    exacts [hr.fails_slot hn, hg.fails_slot hn, hb.fails_slot hn]

/-- Settles O32: the slot holds the unpacked word after `COL.SETRAW`, and `packRaw_fromRaw` packs it again. -/
theorem colSetrawThenGetrawReturnsTheWord : Obligations.ColSetrawThenGetrawReturnsTheWord := by
  unfold Obligations.ColSetrawThenGetrawReturnsTheWord
  intro n w s
  rw [exec_colSetraw]
  refine ⟨decode_encode (.colSetraw n w), fun hn => ?_, withSlot_fails s _⟩
  rw [withSlot_of_le s _ hn]
  obtain ⟨m, hstore, hslot, hother⟩ := storeColor_succeeds n (fromRaw w) s
  refine ⟨m, _, hstore, hstore, hslot, hother, ?_⟩
  have hword : (packRaw (Memory.read m n.toNat)).setWidth 32 = BitVec.ofNat 32 w.toNat := by
    rw [hslot, packRaw_fromRaw, BitVec.ofNat_toNat]
  rw [← hword]
  exact (colGetraw_isColGetter n).succeeds hn

/-- The three channels are disjoint bytes of the 24-bit value (40_color.md R132). -/
theorem colorHex_eq_sum (c : Color) :
    colorHex c = BitVec.ofNat 32 (c.r.toNat * 65536 + c.g.toNat * 256 + c.b.toNat) := by
  apply BitVec.eq_of_toNat_eq
  simp only [colorHex, BitVec.toNat_setWidth, BitVec.toNat_ofNat, BitVec.toNat_append]
  rw [← Nat.shiftLeft_add_eq_or_of_lt c.g.isLt, ← Nat.shiftLeft_add_eq_or_of_lt c.b.isLt]
  simp only [Nat.shiftLeft_eq]
  omega

/-- Settles O33: both commands are getters. -/
theorem colGetrawAndGethexReadTheColour : Obligations.ColGetrawAndGethexReadTheColour := by
  unfold Obligations.ColGetrawAndGethexReadTheColour
  intro n s
  have hraw := colGetraw_isColGetter n
  have hhex := colGethex_isColGetter n
  refine ⟨decode_encode (.colGetraw n), decode_encode (.colGethex n), fun hn => ?_,
    fun hn => ⟨hraw.fails_slot hn, hhex.fails_slot hn⟩⟩
  rw [← colorHex_eq_sum, BitVec.ofNat_toNat]
  exact ⟨hraw.succeeds hn, hhex.succeeds hn⟩

end Sys2Proof.Machine

/-! Proofs/PaletteCommands.lean: the palette pipeline, `PAL.DEC` and `PAL.ENC`, and its round trips (41_palette.md R140 to
R143). -/

namespace Sys2Proof.Machine

/-- `PAL.DEC` on a payload of the palette's length (41_palette.md R141). -/
theorem palDec_succeeds {s : State} (h : s.payLen.toNat = 512) :
    ∃ m, SucceedsWith (exec .palDec s) { s with pal := m } 0 ∧
      ∀ n < 256, Memory.read m n = fromRaw (field16 s.pay (2 * n)) := by
  refine ⟨_, withPayload_of_eq _ h, fun n hn => ?_⟩
  rw [read_palDec, if_pos hn]

/-- `PAL.DEC` on a payload of any other length (41_palette.md R141). -/
theorem palDec_fails_length {s : State} (h : s.payLen.toNat ≠ 512) : FailsWith (exec .palDec s) s 1 0x01 s.payLen :=
  withPayload_fails _ h

/-- The two payload bytes of a slot are its colour word, low byte first (41_palette.md R140). -/
theorem palPayloadByte_slot (s : State) (n : Nat) :
    palPayloadByte s (2 * n) = (packRaw (Memory.read s.pal n)).extractLsb' 0 8 ∧
      palPayloadByte s (2 * n + 1) = (packRaw (Memory.read s.pal n)).extractLsb' 8 8 := by
  constructor
  · rw [palPayloadByte, Nat.mul_div_cancel_left n two_pos, Nat.mul_mod_right, leByte_low]
  · rw [palPayloadByte, Nat.mul_add_div two_pos, Nat.mul_add_mod]
    exact leByte_high _

/-- `PAL.ENC`, which no state makes fail (41_palette.md R142). -/
theorem palEnc_succeeds (s : State) :
    ∃ m, SucceedsWith (exec .palEnc s) { s with pay := m, payLen := 512 } 0 ∧
      (∀ n < 256, Memory.read m (2 * n) = (packRaw (Memory.read s.pal n)).extractLsb' 0 8 ∧
        Memory.read m (2 * n + 1) = (packRaw (Memory.read s.pal n)).extractLsb' 8 8) ∧
      ∀ a, 512 ≤ a → Memory.read m a = Memory.read s.pay a := by
  refine ⟨_, storePayload_succeeds _ _ _ s, fun n hn => ?_, fun a ha => ?_⟩
  · rw [read_palEnc, read_palEnc, if_pos (by omega), if_pos (by omega)]
    exact palPayloadByte_slot s n
  · rw [read_palEnc, if_neg (by omega)]

/-- Settles O34: the two outcomes of the length check. -/
theorem palDecUnpacksEverySlot : Obligations.PalDecUnpacksEverySlot := by
  unfold Obligations.PalDecUnpacksEverySlot
  intro s
  exact ⟨decode_encode .palDec, palDec_succeeds, palDec_fails_length⟩

/-- Settles O35: the encoder's bytes, slot by slot. -/
theorem palEncPacksEverySlot : Obligations.PalEncPacksEverySlot := by
  unfold Obligations.PalEncPacksEverySlot
  intro s
  exact ⟨decode_encode .palEnc, palEnc_succeeds s⟩

/-- Two payloads are equal if their 256 colour words and the bytes beyond them are. -/
theorem read_eq_of_field16_eq {m m' : Memory (BitVec 8)}
    (hword : ∀ n < 256, field16 m (2 * n) = field16 m' (2 * n))
    (hrest : ∀ a, 512 ≤ a → Memory.read m a = Memory.read m' a) (a : Nat) : Memory.read m a = Memory.read m' a := by
  by_cases ha : 512 ≤ a
  · exact hrest a ha
  · have hw := hword (a / 2) (by omega)
    obtain ⟨hlow, hhigh⟩ := extract_field16 m (2 * (a / 2))
    obtain ⟨hlow', hhigh'⟩ := extract_field16 m' (2 * (a / 2))
    obtain heven | hodd : a = 2 * (a / 2) ∨ a = 2 * (a / 2) + 1 := by omega
    · rw [heven, ← hlow, ← hlow', hw]
    · rw [hodd, ← hhigh, ← hhigh', hw]

/-- Settles O36: after `PAL.ENC` the colour word of a slot is the packed one, so (a) is `packRaw_fromRaw` and (b) is
`fromRaw_packRaw`, slot by slot. -/
theorem paletteRoundTrips : Obligations.PaletteRoundTrips := by
  unfold Obligations.PaletteRoundTrips
  refine ⟨fun s hlen => ?_, fun s hquantized => ?_⟩
  · obtain ⟨pal, hdec, hslot⟩ := palDec_succeeds hlen
    obtain ⟨pay, henc, hbytes, hrest⟩ := palEnc_succeeds _
    refine ⟨_, _, hdec, henc, rfl, read_eq_of_field16_eq (fun n hn => ?_) hrest⟩
    obtain ⟨hlow, hhigh⟩ := hbytes n hn
    calc field16 pay (2 * n) = packRaw (Memory.read pal n) := field16_eq hlow hhigh
      _ = field16 s.pay (2 * n) := by rw [hslot n hn, packRaw_fromRaw]
  · obtain ⟨pay, henc, hbytes, -⟩ := palEnc_succeeds s
    obtain ⟨pal, hdec, hslot⟩ := palDec_succeeds (s := ((s.setPay pay).setPayLen 512).complete 0 0) rfl
    refine ⟨_, _, henc, hdec, rfl, fun n hn => ?_⟩
    obtain ⟨hlow, hhigh⟩ := hbytes n hn
    calc Memory.read pal n = fromRaw (field16 pay (2 * n)) := hslot n hn
      _ = fromRaw (packRaw (Memory.read s.pal n)) := by rw [field16_eq hlow hhigh]
      _ = Memory.read s.pal n := fromRaw_packRaw (hquantized n hn)

end Sys2Proof.Machine

/-! Proofs/CharacterBank.lean: the character-bank pipeline, `CHR.DEC` and `CHR.ENC`, and its round trips (42_charbank.md R150
to R152, R157). -/

namespace Sys2Proof.Machine

/-! A byte and its two nibbles as numbers (42_charbank.md R150). -/

theorem toNat_nibble_low (b : BitVec 8) : (nibble b 0).toNat = b.toNat % 16 := by
  simp [nibble]

theorem toNat_nibble_high (b : BitVec 8) : (nibble b 1).toNat = b.toNat / 16 := by
  have := b.isLt
  simp only [nibble, one_ne_zero, if_false, BitVec.extractLsb'_toNat, Nat.shiftRight_eq_div_pow]
  omega

/-- The two cells of a payload byte do not overlap (42_charbank.md R152). -/
theorem toNat_chrPayloadByte (s : State) (a : Nat) : (chrPayloadByte s a).toNat =
    (Memory.read s.chr (chrNibbleKey a 0)).toNat + 16 * (Memory.read s.chr (chrNibbleKey a 1)).toNat := by
  rw [chrPayloadByte]
  generalize Memory.read s.chr (chrNibbleKey a 0) = low
  generalize Memory.read s.chr (chrNibbleKey a 1) = high
  have hlow := low.isLt
  have hhigh := high.isLt
  have hshift : (high.setWidth 8 <<< 4).toNat = high.toNat <<< 4 := by
    simp only [BitVec.toNat_shiftLeft, BitVec.toNat_setWidth, Nat.shiftLeft_eq]
    omega
  rw [BitVec.toNat_or, hshift, BitVec.toNat_setWidth, Nat.mod_eq_of_lt (by omega), Nat.or_comm,
    ← Nat.shiftLeft_add_eq_or_of_lt hlow, Nat.shiftLeft_eq]
  omega

/-- Each nibble of an encoded byte is the cell that was put there. -/
theorem nibble_chrPayloadByte (s : State) (a : Nat) {h : Nat} (hh : h < 2) :
    nibble (chrPayloadByte s a) h = Memory.read s.chr (chrNibbleKey a h) := by
  have hbyte := toNat_chrPayloadByte s a
  have hlow := (Memory.read s.chr (chrNibbleKey a 0)).isLt
  apply BitVec.eq_of_toNat_eq
  obtain rfl | rfl : h = 0 ∨ h = 1 := by omega
  · rw [toNat_nibble_low]; omega
  · rw [toNat_nibble_high]; omega

/-- Encoding cells that are the nibbles of a byte gives the byte. -/
theorem chrPayloadByte_eq {s : State} {a : Nat} {b : BitVec 8}
    (hcell : ∀ h < 2, Memory.read s.chr (chrNibbleKey a h) = nibble b h) : chrPayloadByte s a = b := by
  apply BitVec.eq_of_toNat_eq
  rw [toNat_chrPayloadByte, hcell 0 two_pos, hcell 1 one_lt_two, toNat_nibble_low, toNat_nibble_high]
  omega

/-- `CHR.DEC` on a payload of the character bank's length (42_charbank.md R151). -/
theorem chrDec_succeeds {s : State} (h : s.payLen.toNat = 8192) :
    ∃ m, SucceedsWith (exec .chrDec s) { s with chr := m } 0 ∧
      ∀ k < 16384, Memory.read m k = nibble (Memory.read s.pay (chrByte k)) (k % 2) := by
  refine ⟨_, withPayload_of_eq _ h, fun k hk => ?_⟩
  rw [read_chrDec, if_pos hk]

/-- `CHR.DEC` on a payload of any other length (42_charbank.md R151). -/
theorem chrDec_fails_length {s : State} (h : s.payLen.toNat ≠ 8192) : FailsWith (exec .chrDec s) s 1 0x01 s.payLen :=
  withPayload_fails _ h

/-- `CHR.ENC`, which no state makes fail (42_charbank.md R152). -/
theorem chrEnc_succeeds (s : State) :
    ∃ m, SucceedsWith (exec .chrEnc s) { s with pay := m, payLen := 8192 } 0 ∧
      (∀ a < 8192, Memory.read m a = chrPayloadByte s a) ∧ ∀ a, 8192 ≤ a → Memory.read m a = Memory.read s.pay a := by
  refine ⟨_, storePayload_succeeds _ _ _ s, fun a ha => ?_, fun a ha => ?_⟩
  · rw [read_chrEnc, if_pos ha]
  · rw [read_chrEnc, if_neg (Nat.not_lt.mpr ha)]

/-- Settles O37: cells `2k` and `2k + 1` of a tile are the nibbles 0 and 1 of its byte `k`. -/
theorem chrDecUnpacksEveryCell : Obligations.ChrDecUnpacksEveryCell := by
  unfold Obligations.ChrDecUnpacksEveryCell
  intro s
  refine ⟨decode_encode .chrDec, fun hlen => ?_, chrDec_fails_length⟩
  obtain ⟨m, hdec, hcell⟩ := chrDec_succeeds hlen
  have hnibble : ∀ t < 256, ∀ k < 32, ∀ h < 2,
      Memory.read m (t * 64 + (2 * k + h)) = nibble (Memory.read s.pay (32 * t + k)) h := by
    intro t ht k hk h hh
    obtain ⟨hbyte, hmod⟩ : chrByte (t * 64 + (2 * k + h)) = 32 * t + k ∧ (t * 64 + (2 * k + h)) % 2 = h :=
      chrByte_chrKey hh
    rw [hcell _ (by omega), hbyte, hmod]
  refine ⟨m, hdec, fun t ht k hk => ⟨?_, ?_⟩⟩
  · rw [← toNat_nibble_low, ← hnibble t ht k hk 0 two_pos, Nat.add_zero]
  · rw [← toNat_nibble_high, ← hnibble t ht k hk 1 one_lt_two]

/-- Settles O38: byte `32t + k` holds the cells `2k` and `2k + 1` of tile `t`. -/
theorem chrEncPacksEveryCell : Obligations.ChrEncPacksEveryCell := by
  unfold Obligations.ChrEncPacksEveryCell
  intro s
  obtain ⟨m, henc, hbyte, hrest⟩ := chrEnc_succeeds s
  refine ⟨decode_encode .chrEnc, m, henc, fun t ht k hk => ?_, hrest⟩
  rw [hbyte _ (by omega), toNat_chrPayloadByte, chrNibbleKey_byte hk, chrNibbleKey_byte hk]
  rfl

/-- Settles O42: `chrPayloadByte_eq` gives the bytes back and `nibble_chrPayloadByte` the cells. -/
theorem characterBankRoundTrips : Obligations.CharacterBankRoundTrips := by
  unfold Obligations.CharacterBankRoundTrips
  refine ⟨fun s hlen => ?_, fun s => ?_⟩
  · obtain ⟨chr, hdec, hcell⟩ := chrDec_succeeds hlen
    obtain ⟨pay, henc, hbyte, hrest⟩ := chrEnc_succeeds _
    refine ⟨_, _, hdec, henc, rfl, fun a => ?_⟩
    obtain ha | ha := lt_or_ge a 8192
    · refine (hbyte a ha).trans (chrPayloadByte_eq fun h hh => ?_)
      rw [hcell _ (chrNibbleKey_lt ha hh), chrByte_chrNibbleKey a hh, chrNibbleKey_mod a hh]
    · exact hrest a ha
  · obtain ⟨pay, henc, hbyte, -⟩ := chrEnc_succeeds s
    obtain ⟨chr, hdec, hcell⟩ := chrDec_succeeds (s := ((s.setPay pay).setPayLen 8192).complete 0 0) rfl
    refine ⟨_, _, henc, hdec, rfl, fun k hk => ?_⟩
    calc Memory.read chr k = nibble (Memory.read pay (chrByte k)) (k % 2) := hcell k hk
      _ = nibble (chrPayloadByte s (chrByte k)) (k % 2) := by rw [hbyte _ (chrByte_lt hk)]
      _ = Memory.read s.chr (chrNibbleKey (chrByte k) (k % 2)) := nibble_chrPayloadByte s _ (Nat.mod_lt k two_pos)
      _ = Memory.read s.chr k := by rw [chrNibbleKey_chrByte]

end Sys2Proof.Machine

/-! Proofs/CharacterCells.lean: the character-bank accessors, the palette resolve and the read of its result (42_charbank.md
R153 to R156, R158, R159). -/

namespace Sys2Proof.Machine

/-- A command that begins with an operand check: it fails if the check refuses, and otherwise ends as the rest of it
does. -/
theorem failsWith_or_rest {o rest : Host.Outcome State Fault Refusal} {b R : Prop} [Decidable b] {c : Cause}
    {info : BitVec 16} {s : State} {n : Nat} {k : BitVec 8} (ho : o = if b then raise c info s else rest)
    (hR : ¬b → o = rest → R) (hn : c.errorClass.number = n := by rfl) (hk : c.number = k := by rfl) :
    if b then FailsWith o s n k info else R := by
  split
  · next hb =>
    rw [ho, if_pos hb]
    exact raise_failsWith_of info s hn hk
  · next hb => exact hR hb (ho.trans (if_neg hb))

/-- Settles O39: the four checks, then the read. -/
theorem chrGetReadsOneCell : Obligations.ChrGetReadsOneCell := by
  unfold Obligations.ChrGetReadsOneCell
  intro t x y s
  refine ⟨decode_encode (.chrGet t x y), ?_⟩
  refine failsWith_or_rest rfl fun _ htile => ?_
  refine failsWith_or_rest htile fun _ hx => ?_
  refine failsWith_or_rest hx fun _ hy => ?_
  refine failsWith_or_rest hy fun _ hread => ?_
  rw [BitVec.ofNat_toNat]
  exact hread

/-- Settles O40: the five checks, then the write of one cell, whose value in range loses nothing when it is cut to 4
bits. -/
theorem chrSetWritesOneCell : Obligations.ChrSetWritesOneCell := by
  unfold Obligations.ChrSetWritesOneCell
  intro t x y v s
  refine ⟨decode_encode (.chrSet t x y v), ?_⟩
  refine failsWith_or_rest rfl fun _ htile => ?_
  refine failsWith_or_rest htile fun _ hx => ?_
  refine failsWith_or_rest hx fun _ hy => ?_
  refine failsWith_or_rest hy fun hvalue hv => ?_
  refine failsWith_or_rest hv fun _ hwrite => ?_
  refine ⟨Memory.write s.chr (t.toNat * 64 + (y.toNat * 64 + x.toNat)) (v.setWidth 4), hwrite, ?_,
    fun _ hk => Memory.read_write_other _ _ hk⟩
  rw [Memory.read_write_same, BitVec.toNat_setWidth, Nat.mod_eq_of_lt (by omega)]

/-- Settles O41: the two checks, then the fill of all 64 entries. -/
theorem chrResolveFillsTheResolveBuffer : Obligations.ChrResolveFillsTheResolveBuffer := by
  unfold Obligations.ChrResolveFillsTheResolveBuffer
  intro t p s
  refine ⟨decode_encode (.chrResolve t p), ?_⟩
  refine failsWith_or_rest rfl fun _ htile => ?_
  refine failsWith_or_rest htile fun _ hfill => ?_
  refine ⟨Memory.fill rbufCells (List.range rbufCells) (resolvedColor s t.toNat p.toNat) s.rbuf, hfill, fun i hi => ?_⟩
  rw [read_fill_range, if_pos (show i < rbufCells from hi)]
  rfl

/-- Settles O24: the three channels of the entry are disjoint bytes, by `colorHex_eq_sum`. -/
theorem rbufRdReadsOneColour : Obligations.RbufRdReadsOneColour := by
  unfold Obligations.RbufRdReadsOneColour
  intro i s
  refine ⟨decode_encode (.rbufRd i), fun hi => ?_, fun hi => ?_⟩
  · have hread : exec (.rbufRd i) s = succeed s (colorHex (Memory.read s.rbuf i.toNat)) := if_neg (Nat.not_lt.mpr hi)
    rw [hread, ← colorHex_eq_sum]
    exact succeed_succeedsWith s _
  · have hraise : exec (.rbufRd i) s = raise .rngRbufIndex i s := if_pos hi
    rw [hraise]
    exact raise_failsWith_of i s rfl rfl

end Sys2Proof.Machine

/-! Proofs/BitmapTransform.lean: the index pair of the bitmap transform, the bitmap pipeline, `GRP.DEC` and `GRP.ENC`, and its
round trips (43_bitmap.md R170 to R175, R178). -/

namespace Sys2Proof.Machine

/-- The six loop variables are in their ranges (43_bitmap.md R170). -/
structure GrpTuple (l k j i y x : Nat) : Prop where
  l_lt : l < 3
  k_lt : k < 4
  j_lt : j < 8
  i_lt : i < 8
  y_lt : y < 8
  x_lt : x < 8

section
variable {l k j i y x l' k' j' i' y' x' : Nat}

theorem grpSrc_lt (h : GrpTuple l k j i y x) : grpSrc l k j i y x < 49152 := by
  obtain ⟨hl, hk, hj, hi, hy, hx⟩ := h
  simp only [grpSrc]; omega

theorem grpPayloadIndex_grpDst_of_tuple (h : GrpTuple l k j i y x) :
    grpPayloadIndex (grpDst l k j i y x) = grpSrc l k j i y x :=
  grpPayloadIndex_grpDst h.k_lt h.j_lt h.i_lt h.y_lt h.x_lt

theorem grpRasterIndex_grpSrc_of_tuple (h : GrpTuple l k j i y x) :
    grpRasterIndex (grpSrc l k j i y x) = grpDst l k j i y x :=
  grpRasterIndex_grpSrc h.k_lt h.j_lt h.i_lt h.y_lt h.x_lt

theorem grpDst_lt (h : GrpTuple l k j i y x) : grpDst l k j i y x < 49152 :=
  grpRasterIndex_grpSrc_of_tuple h ▸ grpRasterIndex_lt (grpSrc_lt h)

/-- The loop variables are the digits of the payload index, so it determines them (43_bitmap.md R172). -/
theorem grpSrc_injective (h : GrpTuple l k j i y x) (h' : GrpTuple l' k' j' i' y' x')
    (heq : grpSrc l' k' j' i' y' x' = grpSrc l k j i y x) :
    l' = l ∧ k' = k ∧ j' = j ∧ i' = i ∧ y' = y ∧ x' = x := by
  obtain ⟨hl, hk, hj, hi, hy, hx⟩ := h
  obtain ⟨hl', hk', hj', hi', hy', hx'⟩ := h'
  simp only [grpSrc] at heq
  omega

/-- Tuples of the same raster index have the same payload index (43_bitmap.md R172). -/
theorem grpDst_injective (h : GrpTuple l k j i y x) (h' : GrpTuple l' k' j' i' y' x')
    (heq : grpDst l' k' j' i' y' x' = grpDst l k j i y x) :
    l' = l ∧ k' = k ∧ j' = j ∧ i' = i ∧ y' = y ∧ x' = x :=
  grpSrc_injective h h' <|
    calc grpSrc l' k' j' i' y' x' = grpPayloadIndex (grpDst l' k' j' i' y' x') := (grpPayloadIndex_grpDst_of_tuple h').symm
      _ = grpPayloadIndex (grpDst l k j i y x) := by rw [heq]
      _ = grpSrc l k j i y x := grpPayloadIndex_grpDst_of_tuple h

end

/-- `grpRasterIndex` is `GDST` of a tuple: the digits of the payload index (43_bitmap.md R172). -/
theorem exists_tuple_grpDst_eq {d : Nat} (hd : d < 49152) :
    ∃ l k j i y x, GrpTuple l k j i y x ∧ grpDst l k j i y x = d := by
  have ha := grpPayloadIndex_lt hd
  refine ⟨_, _, _, _, _, _, ?_, grpRasterIndex_grpPayloadIndex d⟩
  constructor <;> omega

/-- `grpPayloadIndex` is `GSRC` of a tuple: the digits of the raster index, in their order there (43_bitmap.md R172). -/
theorem exists_tuple_grpSrc_eq {a : Nat} (ha : a < 49152) :
    ∃ l k j i y x, GrpTuple l k j i y x ∧ grpSrc l k j i y x = a := by
  have hd := grpRasterIndex_lt ha
  refine ⟨_, _, _, _, _, _, ?_, grpPayloadIndex_grpRasterIndex a⟩
  constructor <;> omega

/-- Settles O43: each index has the tuple of its digits, and no other by injectivity. -/
theorem bitmapIndexPairIsABijection : Obligations.BitmapIndexPairIsABijection := by
  unfold Obligations.BitmapIndexPairIsABijection
  refine ⟨fun l k j i y x hl hk hj hi hy hx => ?_, fun d hd => ?_, fun a ha => ?_⟩
  · have h : GrpTuple l k j i y x := ⟨hl, hk, hj, hi, hy, hx⟩
    exact ⟨grpSrc_lt h, grpDst_lt h⟩
  · obtain ⟨l, k, j, i, y, x, h, rfl⟩ := exists_tuple_grpDst_eq hd
    exact ⟨l, k, j, i, y, x, ⟨h.l_lt, h.k_lt, h.j_lt, h.i_lt, h.y_lt, h.x_lt, rfl⟩,
      fun _ _ _ _ _ _ hl hk hj hi hy hx => grpDst_injective h ⟨hl, hk, hj, hi, hy, hx⟩⟩
  · obtain ⟨l, k, j, i, y, x, h, rfl⟩ := exists_tuple_grpSrc_eq ha
    exact ⟨l, k, j, i, y, x, ⟨h.l_lt, h.k_lt, h.j_lt, h.i_lt, h.y_lt, h.x_lt, rfl⟩,
      fun _ _ _ _ _ _ hl hk hj hi hy hx => grpSrc_injective h ⟨hl, hk, hj, hi, hy, hx⟩⟩

/-- `GRP.DEC` on a payload of the raster's length (43_bitmap.md R174). -/
theorem grpDec_succeeds {s : State} (h : s.payLen.toNat = 49152) :
    ∃ m, SucceedsWith (exec .grpDec s) { s with img := m } 0 ∧
      ∀ d < 49152, Memory.read m d = Memory.read s.pay (grpPayloadIndex d) := by
  refine ⟨_, withPayload_of_eq _ h, fun d hd => ?_⟩
  rw [read_grpDec, if_pos hd]

/-- `GRP.DEC` on a payload of any other length (43_bitmap.md R174). -/
theorem grpDec_fails_length {s : State} (h : s.payLen.toNat ≠ 49152) : FailsWith (exec .grpDec s) s 1 0x01 s.payLen :=
  withPayload_fails _ h

/-- `GRP.ENC`, which no state makes fail (43_bitmap.md R175). -/
theorem grpEnc_succeeds (s : State) :
    ∃ m, SucceedsWith (exec .grpEnc s) { s with pay := m, payLen := 49152 } 0 ∧
      (∀ a < 49152, Memory.read m a = Memory.read s.img (grpRasterIndex a)) ∧
      ∀ a, 49152 ≤ a → Memory.read m a = Memory.read s.pay a := by
  refine ⟨_, storePayload_succeeds _ _ _ s, fun a ha => ?_, fun a ha => ?_⟩
  · rw [read_grpEnc, if_pos ha]
  · rw [read_grpEnc, if_neg (Nat.not_lt.mpr ha)]

/-- Settles O44: the decoder reads each pixel at its payload index, which for the raster index of a tuple is the tuple's. -/
theorem grpDecPlacesEveryPixel : Obligations.GrpDecPlacesEveryPixel := by
  unfold Obligations.GrpDecPlacesEveryPixel
  intro s
  refine ⟨decode_encode .grpDec, fun hlen => ?_, grpDec_fails_length⟩
  obtain ⟨m, hdec, hpixel⟩ := grpDec_succeeds hlen
  refine ⟨m, hdec, fun l k j i y x hl hk hj hi hy hx => ?_⟩
  have h : GrpTuple l k j i y x := ⟨hl, hk, hj, hi, hy, hx⟩
  calc Memory.read m (grpDst l k j i y x)
      = Memory.read s.pay (grpPayloadIndex (grpDst l k j i y x)) := hpixel _ (grpDst_lt h)
    _ = Memory.read s.pay (grpSrc l k j i y x) := by rw [grpPayloadIndex_grpDst_of_tuple h]

/-- Settles O45: the encoder reads each byte at its raster index, which for the payload index of a tuple is the tuple's. -/
theorem grpEncPlacesEveryByte : Obligations.GrpEncPlacesEveryByte := by
  unfold Obligations.GrpEncPlacesEveryByte
  intro s
  obtain ⟨m, henc, hbyte, hrest⟩ := grpEnc_succeeds s
  refine ⟨decode_encode .grpEnc, m, henc, fun l k j i y x hl hk hj hi hy hx => ?_, hrest⟩
  have h : GrpTuple l k j i y x := ⟨hl, hk, hj, hi, hy, hx⟩
  calc Memory.read m (grpSrc l k j i y x)
      = Memory.read s.img (grpRasterIndex (grpSrc l k j i y x)) := hbyte _ (grpSrc_lt h)
    _ = Memory.read s.img (grpDst l k j i y x) := by rw [grpRasterIndex_grpSrc_of_tuple h]

/-- Settles O47: the two index maps undo each other, so every byte and every pixel comes back to its place. -/
theorem bitmapRoundTrips : Obligations.BitmapRoundTrips := by
  unfold Obligations.BitmapRoundTrips
  refine ⟨fun s hlen => ?_, fun s => ?_⟩
  · obtain ⟨img, hdec, hpixel⟩ := grpDec_succeeds hlen
    obtain ⟨pay, henc, hbyte, hrest⟩ := grpEnc_succeeds _
    refine ⟨_, _, hdec, henc, rfl, fun a => ?_⟩
    obtain ha | ha := lt_or_ge a 49152
    · calc Memory.read pay a = Memory.read img (grpRasterIndex a) := hbyte a ha
        _ = Memory.read s.pay (grpPayloadIndex (grpRasterIndex a)) := hpixel _ (grpRasterIndex_lt ha)
        _ = Memory.read s.pay a := by rw [grpPayloadIndex_grpRasterIndex]
    · exact hrest a ha
  · obtain ⟨pay, henc, hbyte, -⟩ := grpEnc_succeeds s
    obtain ⟨img, hdec, hpixel⟩ := grpDec_succeeds (s := ((s.setPay pay).setPayLen 49152).complete 0 0) rfl
    refine ⟨_, _, henc, hdec, rfl, fun d hd => ?_⟩
    calc Memory.read img d = Memory.read pay (grpPayloadIndex d) := hpixel d hd
      _ = Memory.read s.img (grpRasterIndex (grpPayloadIndex d)) := hbyte _ (grpPayloadIndex_lt hd)
      _ = Memory.read s.img d := by rw [grpRasterIndex_grpPayloadIndex]

end Sys2Proof.Machine

/-! Proofs/BitmapPixels.lean: the bitmap accessors, `GRP.GET` and `GRP.SET` (43_bitmap.md R176, R177). -/

namespace Sys2Proof.Machine

/-- `GRP.GET` checks `x` and `y`, then reads the one pixel (43_bitmap.md R176). -/
theorem grpGet_outcome (x y : Operand) (s : State) :
    if 255 < x.toNat then FailsWith (exec (.grpGet x y) s) s 2 0x50 x
    else if 191 < y.toNat then FailsWith (exec (.grpGet x y) s) s 2 0x51 y
    else SucceedsWith (exec (.grpGet x y) s) s
      (BitVec.ofNat 32 (Memory.read s.img (y.toNat * 256 + x.toNat)).toNat) := by
  refine failsWith_or_rest rfl fun _ hx => ?_
  refine failsWith_or_rest hx fun _ hread => ?_
  rw [BitVec.ofNat_toNat]
  exact hread

/-- `GRP.SET` checks `x`, `y` and the value, which in range loses nothing when it is cut to 8 bits, then writes the one
pixel (43_bitmap.md R177). -/
theorem grpSet_outcome (x y v : Operand) (s : State) :
    if 255 < x.toNat then FailsWith (exec (.grpSet x y v) s) s 2 0x50 x
    else if 191 < y.toNat then FailsWith (exec (.grpSet x y v) s) s 2 0x51 y
    else if 255 < v.toNat then FailsWith (exec (.grpSet x y v) s) s 2 0x52 v
    else ∃ m, SucceedsWith (exec (.grpSet x y v) s) { s with img := m } 0 ∧
      (Memory.read m (y.toNat * 256 + x.toNat)).toNat = v.toNat ∧
      ∀ k, k ≠ y.toNat * 256 + x.toNat → Memory.read m k = Memory.read s.img k := by
  refine failsWith_or_rest rfl fun _ hx => ?_
  refine failsWith_or_rest hx fun _ hy => ?_
  refine failsWith_or_rest hy fun hvalue hwrite => ?_
  refine ⟨Memory.write s.img (y.toNat * 256 + x.toNat) (v.setWidth 8), hwrite, ?_,
    fun _ hk => Memory.read_write_other _ _ hk⟩
  rw [Memory.read_write_same, BitVec.toNat_setWidth, Nat.mod_eq_of_lt (by omega)]

/-- Settles O46: the two commands' outcomes. -/
theorem grpGetAndSetAccessOnePixel : Obligations.GrpGetAndSetAccessOnePixel := by
  unfold Obligations.GrpGetAndSetAccessOnePixel
  intro x y v s
  exact ⟨decode_encode (.grpGet x y), decode_encode (.grpSet x y v), grpGet_outcome x y s, grpSet_outcome x y v s⟩

end Sys2Proof.Machine

/-! Proofs/TileWord.lean: the tile word, its fields and its round trips (44_tilemap.md R193 to R195). -/

namespace Sys2Proof.Machine

/-! The bits of a word as numbers. -/

/-- A field put above a word's bits adds to its value, without the bits that the shift pushes out of the word. -/
theorem toNat_or_shiftLeft {n k : Nat} (x y : BitVec n) (hk : k ≤ n) (hx : x.toNat < 2 ^ k) :
    (x ||| y <<< k).toNat = x.toNat + y.toNat % 2 ^ (n - k) * 2 ^ k := by
  have hmod : (y <<< k).toNat = (y.toNat % 2 ^ (n - k)) <<< k := by
    rw [BitVec.toNat_shiftLeft, Nat.shiftLeft_eq, Nat.shiftLeft_eq, ← Nat.mul_mod_mul_right, ← Nat.pow_add,
      Nat.sub_add_cancel hk]
  rw [BitVec.toNat_or, hmod, Nat.or_comm, ← Nat.shiftLeft_add_eq_or_of_lt hx, Nat.shiftLeft_eq, Nat.add_comm]

theorem toNat_flagWord (f : Bool) {n : Nat} (hn : 0 < n) : (flagWord f n).toNat = f.toNat := by
  have hpow : 2 ≤ 2 ^ n := Nat.le_self_pow hn.ne' 2
  have hf : f.toNat < 2 ^ n := f.toNat_lt.trans_le hpow
  rw [flagWord, BitVec.toNat_setWidth, BitVec.toNat_ofBool, Nat.mod_eq_of_lt hf]

theorem getLsbD_eq_decide {n : Nat} (w : BitVec n) (i : Nat) : w.getLsbD i = decide (w.toNat / 2 ^ i % 2 = 1) := by
  rw [BitVec.getLsbD, Nat.testBit_eq_decide_div_mod_eq]

theorem toNat_getLsbD {n : Nat} (w : BitVec n) (i : Nat) : (w.getLsbD i).toNat = w.toNat / 2 ^ i % 2 := by
  rw [BitVec.getLsbD, Nat.toNat_testBit]

theorem getLsbD_eq_iff {n : Nat} (w : BitVec n) (i : Nat) (f : Bool) :
    w.getLsbD i = f ↔ w.toNat / 2 ^ i % 2 = f.toNat := by
  rw [← toNat_getLsbD]
  exact (Function.LeftInverse.injective Bool.ofNat_toNat).eq_iff.symm

/-- A bit is set if masking the word with its weight leaves the weight (44_tilemap.md R194). -/
theorem flipFlag_eq_getLsbD (w : BitVec 16) {bit : Nat} (h : bit < 16) : flipFlag w bit = w.getLsbD bit := by
  rw [flipFlag, ← BitVec.twoPow_eq, BitVec.and_twoPow]
  have hne : BitVec.twoPow 16 bit ≠ 0#16 := fun h0 => by
    have hbit := BitVec.getLsbD_twoPow (w := 16) bit bit
    rw [h0] at hbit
    simp [h] at hbit
  cases w.getLsbD bit
  · simpa using hne.symm
  · simp

/-- The legal flip bits are 10 and 11, either way round (00_scope.md R6). -/
theorem flipBits_of_wf {cfg : Config} (h : cfg.wf = true) :
    (cfg.flipHBit = 10 ∧ cfg.flipVBit = 11) ∨ (cfg.flipHBit = 11 ∧ cfg.flipVBit = 10) := by
  simp only [Config.wf, Config.flipBitsLegal, Config.flipBitsDistinct, Bool.and_eq_true, Bool.or_eq_true, beq_iff_eq,
    bne_iff_ne] at h
  obtain ⟨⟨-, hh, hv⟩, hne⟩ := h
  omega

/-! The fields of a tile word as numbers (44_tilemap.md R194). -/

theorem toNat_tileFromRaw_chr (cfg : Config) (w : BitVec 16) : (tileFromRaw cfg w).chr.toNat = w.toNat % 1024 := by
  rw [tileFromRaw, BitVec.toNat_setWidth, BitVec.toNat_and]
  exact (congrArg (· % 1024) (Nat.and_two_pow_sub_one_eq_mod w.toNat 10)).trans (Nat.mod_mod _ _)

/-- The mask leaves at most four bits of the palette, which its ten bits hold. -/
theorem toNat_tileFromRaw_pal (cfg : Config) (w : BitVec 16) :
    (tileFromRaw cfg w).pal.toNat = (w.toNat / 4096) &&& cfg.palMask.toNat := by
  have hmask := cfg.palMask.isLt
  have hle : (w.toNat / 2 ^ 12) &&& cfg.palMask.toNat ≤ cfg.palMask.toNat := Nat.and_le_right
  rw [tileFromRaw, BitVec.toNat_setWidth, BitVec.toNat_and, BitVec.toNat_ushiftRight, Nat.shiftRight_eq_div_pow,
    BitVec.toNat_setWidth, Nat.mod_eq_of_lt (show cfg.palMask.toNat < 2 ^ 16 by omega), Nat.mod_eq_of_lt (by omega)]

/-- The mask 0xF keeps the whole palette of a tile word (44_tilemap.md R195). -/
theorem toNat_tileFromRaw_pal_of_full {cfg : Config} (hmask : cfg.palMask = 0xF#4) (w : BitVec 16) :
    (tileFromRaw cfg w).pal.toNat = w.toNat / 4096 % 16 := by
  rw [toNat_tileFromRaw_pal, hmask]
  exact Nat.and_two_pow_sub_one_eq_mod _ 4

theorem tileFromRaw_flips {cfg : Config} (h : cfg.wf = true) (w : BitVec 16) :
    (tileFromRaw cfg w).fh = w.getLsbD cfg.flipHBit ∧ (tileFromRaw cfg w).fv = w.getLsbD cfg.flipVBit := by
  have hbits := flipBits_of_wf h
  exact ⟨flipFlag_eq_getLsbD w (by omega), flipFlag_eq_getLsbD w (by omega)⟩

/-- The four fields of a tile word do not overlap, so it is their sum; the palette's upper six bits are shifted out
(44_tilemap.md R193). -/
theorem toNat_tileWord (c p : BitVec 10) (f g : Bool) :
    (c.setWidth 16 ||| flagWord f 16 <<< 10 ||| flagWord g 16 <<< 11 ||| p.setWidth 16 <<< 12).toNat =
      c.toNat + f.toNat * 2 ^ 10 + g.toNat * 2 ^ 11 + p.toNat % 16 * 4096 := by
  have hc := c.isLt
  have hp := p.isLt
  have hf := f.toNat_le
  have hg := g.toNat_le
  have h0 : (c.setWidth 16).toNat = c.toNat := by rw [BitVec.toNat_setWidth, Nat.mod_eq_of_lt (by omega)]
  have h1 : (c.setWidth 16 ||| flagWord f 16 <<< 10).toNat = c.toNat + f.toNat * 2 ^ 10 := by
    rw [toNat_or_shiftLeft _ _ (by omega) (by omega), h0, toNat_flagWord f (by omega), Nat.mod_eq_of_lt (by omega)]
  have h2 : (c.setWidth 16 ||| flagWord f 16 <<< 10 ||| flagWord g 16 <<< 11).toNat =
      c.toNat + f.toNat * 2 ^ 10 + g.toNat * 2 ^ 11 := by
    rw [toNat_or_shiftLeft _ _ (by omega) (by omega), h1, toNat_flagWord g (by omega), Nat.mod_eq_of_lt (by omega)]
  rw [toNat_or_shiftLeft _ _ (by omega) (by omega), h2, BitVec.toNat_setWidth]
  omega

theorem toNat_tileToRaw {cfg : Config} (h : cfg.wf = true) (t : Tile) :
    (tileToRaw cfg t).toNat = t.chr.toNat + t.fh.toNat * 2 ^ cfg.flipHBit + t.fv.toNat * 2 ^ cfg.flipVBit +
      t.pal.toNat % 16 * 4096 := by
  rcases flipBits_of_wf h with ⟨hh, hv⟩ | ⟨hh, hv⟩
  · rw [tileToRaw, hh, hv, toNat_tileWord]
  · rw [tileToRaw, hh, hv, BitVec.or_assoc (t.chr.setWidth 16), BitVec.or_comm (flagWord t.fh 16 <<< 11),
      ← BitVec.or_assoc, toNat_tileWord, Nat.add_right_comm t.chr.toNat]

/-- Settles O48: the decoded fields one by one, and the encoded word as the sum of its fields. -/
theorem tileWordFollowsTheConfiguration : Obligations.TileWordFollowsTheConfiguration := by
  unfold Obligations.TileWordFollowsTheConfiguration
  intro cfg w t hwf
  obtain ⟨hfh, hfv⟩ := tileFromRaw_flips hwf w
  exact ⟨⟨toNat_tileFromRaw_chr cfg w, toNat_tileFromRaw_pal cfg w, hfh, hfv⟩, toNat_tileToRaw hwf t⟩

/-- Encoding a decoded tile word gives it back when the mask keeps the whole palette (44_tilemap.md R195). -/
theorem tileToRaw_tileFromRaw {cfg : Config} (h : cfg.wf = true) (hmask : cfg.palMask = 0xF#4) (w : BitVec 16) :
    tileToRaw cfg (tileFromRaw cfg w) = w := by
  have hw := w.isLt
  obtain ⟨hfh, hfv⟩ := tileFromRaw_flips h w
  apply BitVec.eq_of_toNat_eq
  rw [toNat_tileToRaw h, toNat_tileFromRaw_chr, toNat_tileFromRaw_pal_of_full hmask, hfh, hfv, toNat_getLsbD,
    toNat_getLsbD]
  rcases flipBits_of_wf h with ⟨hh, hv⟩ | ⟨hh, hv⟩ <;> rw [hh, hv] <;> omega

/-- The fields of an encoded tile word, each read back from its own bits (44_tilemap.md R193). -/
theorem tileToRaw_fields {cfg : Config} (h : cfg.wf = true) (t : Tile) :
    (tileToRaw cfg t).toNat % 1024 = t.chr.toNat ∧ (tileToRaw cfg t).toNat / 4096 = t.pal.toNat % 16 ∧
      (tileToRaw cfg t).getLsbD cfg.flipHBit = t.fh ∧ (tileToRaw cfg t).getLsbD cfg.flipVBit = t.fv := by
  have hchr := t.chr.isLt
  have hfh := t.fh.toNat_le
  have hfv := t.fv.toNat_le
  rw [getLsbD_eq_iff, getLsbD_eq_iff, toNat_tileToRaw h]
  rcases flipBits_of_wf h with ⟨hh, hv⟩ | ⟨hh, hv⟩ <;> rw [hh, hv] <;> omega

/-- Decoding an encoded tile gives it back but for the palette's upper six bits (44_tilemap.md R195). -/
theorem tileFromRaw_tileToRaw {cfg : Config} (h : cfg.wf = true) (hmask : cfg.palMask = 0xF#4) (t : Tile) :
    tileFromRaw cfg (tileToRaw cfg t) = { t with pal := BitVec.ofNat 10 (t.pal.toNat % 16) } := by
  obtain ⟨hchr, hpal, hfh, hfv⟩ := tileToRaw_fields h t
  obtain ⟨hfh', hfv'⟩ := tileFromRaw_flips h (tileToRaw cfg t)
  have hchr' : (tileFromRaw cfg (tileToRaw cfg t)).chr = t.chr :=
    BitVec.eq_of_toNat_eq ((toNat_tileFromRaw_chr cfg _).trans hchr)
  have hpal' : (tileFromRaw cfg (tileToRaw cfg t)).pal = BitVec.ofNat 10 (t.pal.toNat % 16) := by
    apply BitVec.eq_of_toNat_eq
    rw [toNat_tileFromRaw_pal_of_full hmask, hpal, BitVec.toNat_ofNat]
    omega
  rw [← hchr', ← hpal', ← hfh, ← hfv, ← hfh', ← hfv']

end Sys2Proof.Machine

/-! Proofs/TileMapTransform.lean: the tile-map pipeline, `SCR.DEC` and `SCR.ENC`, and its round trips (44_tilemap.md R190 to
R197). -/

namespace Sys2Proof.Machine

theorem scrDst_lt {j i y x : Nat} (hj : j < 2) (hi : i < 2) (hy : y < 32) (hx : x < 32) : scrDst j i y x < 4096 := by
  simp only [scrDst]; omega

/-- `SCR.DEC` on a payload of the tile map's length (44_tilemap.md R196; assumption 12). -/
theorem scrDec_succeeds {s : State} (h : s.payLen.toNat = 8192) :
    ∃ m, SucceedsWith (exec .scrDec s) { s with tmap := m } 0 ∧
      (s.cfg.wf = true → ∀ d < 4096, Memory.read m d = tileFromRaw s.cfg (field16 s.pay (scrOffset d))) := by
  refine ⟨_, withPayload_of_eq _ h, fun hwf d hd => ?_⟩
  rw [read_scrDec s hwf, if_pos hd]

/-- `SCR.DEC` on a payload of any other length (44_tilemap.md R196). -/
theorem scrDec_fails_length {s : State} (h : s.payLen.toNat ≠ 8192) : FailsWith (exec .scrDec s) s 1 0x01 s.payLen :=
  withPayload_fails _ h

/-- The two payload bytes of a slot are its tile word, low byte first (44_tilemap.md R190). -/
theorem scrPayloadByte_scrOffset (s : State) (d : Nat) :
    scrPayloadByte s (scrOffset d) = (tileToRaw s.cfg (Memory.read s.tmap d)).extractLsb' 0 8 ∧
      scrPayloadByte s (scrOffset d + 1) = (tileToRaw s.cfg (Memory.read s.tmap d)).extractLsb' 8 8 := by
  have heven := scrOffset_even d
  have hslot : scrSlot (scrOffset d) = d := by simpa using scrSlot_scrOffset d (h := 0) two_pos
  constructor
  · rw [scrPayloadByte, hslot, heven, leByte_low]
  · rw [scrPayloadByte, scrSlot_scrOffset d one_lt_two, Nat.succ_mod_two_eq_one_iff.mpr heven, leByte_high]

/-- `SCR.ENC`, which no state makes fail (44_tilemap.md R197). -/
theorem scrEnc_succeeds (s : State) :
    ∃ m, SucceedsWith (exec .scrEnc s) { s with pay := m, payLen := 8192 } 0 ∧
      (∀ d < 4096, Memory.read m (scrOffset d) = (tileToRaw s.cfg (Memory.read s.tmap d)).extractLsb' 0 8 ∧
        Memory.read m (scrOffset d + 1) = (tileToRaw s.cfg (Memory.read s.tmap d)).extractLsb' 8 8) ∧
      ∀ a, 8192 ≤ a → Memory.read m a = Memory.read s.pay a := by
  refine ⟨_, storePayload_succeeds _ _ _ s, fun d hd => ?_, fun a ha => ?_⟩
  · have hlt := scrOffset_lt hd
    rw [read_scrEnc, read_scrEnc, if_pos (by omega), if_pos hlt]
    exact scrPayloadByte_scrOffset s d
  · rw [read_scrEnc, if_neg (Nat.not_lt.mpr ha)]

/-- Settles O49: the decoder reads each slot's word at its payload offset, which for the slot of a tuple is the tuple's. -/
theorem scrDecPlacesEveryTile : Obligations.ScrDecPlacesEveryTile := by
  unfold Obligations.ScrDecPlacesEveryTile
  intro s
  refine ⟨decode_encode .scrDec, fun hlen => ?_, scrDec_fails_length⟩
  obtain ⟨m, hdec, htile⟩ := scrDec_succeeds hlen
  refine ⟨m, hdec, fun hwf j i y x hj hi hy hx => ?_⟩
  calc Memory.read m (scrDst j i y x)
      = tileFromRaw s.cfg (field16 s.pay (scrOffset (scrDst j i y x))) := htile hwf _ (scrDst_lt hj hi hy hx)
    _ = tileFromRaw s.cfg (field16 s.pay (scrSrc j i y x)) := by rw [scrOffset_scrDst hi hy hx]

/-- Settles O50: the encoder writes each slot's word at its payload offset, which for the slot of a tuple is the
tuple's. -/
theorem scrEncPlacesEveryTile : Obligations.ScrEncPlacesEveryTile := by
  unfold Obligations.ScrEncPlacesEveryTile
  intro s
  obtain ⟨m, henc, hbytes, hrest⟩ := scrEnc_succeeds s
  refine ⟨decode_encode .scrEnc, m, henc, fun j i y x hj hi hy hx => ?_, hrest⟩
  have hword := hbytes _ (scrDst_lt hj hi hy hx)
  rw [scrOffset_scrDst hi hy hx] at hword
  exact hword

/-- Two payloads are equal if their 4096 tile words and the bytes beyond them are. -/
theorem read_eq_of_tileWord_eq {m m' : Memory (BitVec 8)}
    (hword : ∀ d < 4096, field16 m (scrOffset d) = field16 m' (scrOffset d))
    (hrest : ∀ a, 8192 ≤ a → Memory.read m a = Memory.read m' a) (a : Nat) : Memory.read m a = Memory.read m' a := by
  by_cases ha : 8192 ≤ a
  · exact hrest a ha
  · have hw := hword (scrSlot a) (scrSlot_lt (by omega))
    have hoffset := scrOffset_scrSlot a
    obtain ⟨hlow, hhigh⟩ := extract_field16 m (scrOffset (scrSlot a))
    obtain ⟨hlow', hhigh'⟩ := extract_field16 m' (scrOffset (scrSlot a))
    obtain heven | hodd : a = scrOffset (scrSlot a) ∨ a = scrOffset (scrSlot a) + 1 := by omega
    · rw [heven, ← hlow, ← hlow', hw]
    · rw [hodd, ← hhigh, ← hhigh', hw]

/-- Settles O56: after `SCR.ENC` the tile word of a slot is the encoded one, so the two orders are `tileToRaw_tileFromRaw`
and `tileFromRaw_tileToRaw`, slot by slot. -/
theorem tileMapRoundTrips : Obligations.TileMapRoundTrips := by
  unfold Obligations.TileMapRoundTrips
  refine ⟨fun s hwf hmask hlen => ?_, fun s hwf hmask => ?_⟩
  · obtain ⟨tmap, hdec, htile⟩ := scrDec_succeeds hlen
    obtain ⟨pay, henc, hbytes, hrest⟩ := scrEnc_succeeds ((s.setTmap tmap).complete 0 0)
    refine ⟨_, _, hdec, henc, rfl, read_eq_of_tileWord_eq (fun d hd => ?_) hrest⟩
    obtain ⟨hlow, hhigh⟩ := hbytes d hd
    calc field16 pay (scrOffset d) = tileToRaw s.cfg (Memory.read tmap d) := field16_eq hlow hhigh
      _ = field16 s.pay (scrOffset d) := by rw [htile hwf d hd, tileToRaw_tileFromRaw hwf hmask]
  · obtain ⟨pay, henc, hbytes, -⟩ := scrEnc_succeeds s
    obtain ⟨tmap, hdec, htile⟩ := scrDec_succeeds (s := ((s.setPay pay).setPayLen 8192).complete 0 0) rfl
    refine ⟨_, _, henc, hdec, rfl, fun d hd => ?_⟩
    obtain ⟨hlow, hhigh⟩ := hbytes d hd
    calc Memory.read tmap d = tileFromRaw s.cfg (field16 pay (scrOffset d)) := htile hwf d hd
      _ = tileFromRaw s.cfg (tileToRaw s.cfg (Memory.read s.tmap d)) := by rw [field16_eq hlow hhigh]
      _ = { Memory.read s.tmap d with pal := BitVec.ofNat 10 ((Memory.read s.tmap d).pal.toNat % 16) } :=
        tileFromRaw_tileToRaw hwf hmask _

end Sys2Proof.Machine

/-! Proofs/TileMapSlots.lean: the tile-map accessors (44_tilemap.md R198 to R204). -/

namespace Sys2Proof.Machine

/-- An accessor that begins with the coordinate checks: it fails if one refuses, and otherwise ends as its own part does
on the slot (44_tilemap.md R204). -/
theorem withTile_or_rest {o : Host.Outcome State Fault Refusal} {x y : Operand} {s : State} {R : Prop}
    {k : Nat → Host.Outcome State Fault Refusal} (ho : o = withTile x y s k)
    (hR : o = k (y.toNat * 64 + x.toNat) → R) :
    if 63 < x.toNat then FailsWith o s 2 0x60 x else if 63 < y.toNat then FailsWith o s 2 0x61 y else R :=
  failsWith_or_rest ho fun _ hx => failsWith_or_rest hx fun _ hy => hR hy

/-- The four fields in the response of `SCR.GET` do not overlap, so it is their sum (44_tilemap.md R198). -/
theorem tilePacked_eq_sum (t : Tile) : tilePacked t =
    BitVec.ofNat 32 (t.chr.toNat + t.pal.toNat * 1024 + t.fh.toNat * 1048576 + t.fv.toNat * 2097152) := by
  have hchr := t.chr.isLt
  have hpal := t.pal.isLt
  have hfh := t.fh.toNat_le
  have hfv := t.fv.toNat_le
  have h0 : (t.chr.setWidth 32).toNat = t.chr.toNat := by rw [BitVec.toNat_setWidth, Nat.mod_eq_of_lt (by omega)]
  have h1 : (t.chr.setWidth 32 ||| t.pal.setWidth 32 <<< 10).toNat = t.chr.toNat + t.pal.toNat * 2 ^ 10 := by
    rw [toNat_or_shiftLeft _ _ (by omega) (by omega), h0, BitVec.toNat_setWidth]
    omega
  have h2 : (t.chr.setWidth 32 ||| t.pal.setWidth 32 <<< 10 ||| flagWord t.fh 32 <<< 20).toNat =
      t.chr.toNat + t.pal.toNat * 2 ^ 10 + t.fh.toNat * 2 ^ 20 := by
    rw [toNat_or_shiftLeft _ _ (by omega) (by omega), h1, toNat_flagWord _ (by omega)]
    omega
  apply BitVec.eq_of_toNat_eq
  rw [tilePacked, toNat_or_shiftLeft _ _ (by omega) (by omega), h2, toNat_flagWord _ (by omega), BitVec.toNat_ofNat]
  omega

/-! The six accessors, each as the coordinate checks and its own part (44_tilemap.md R198 to R203). -/

theorem exec_scrGet (x y : Operand) (s : State) : exec (.scrGet x y) s =
    withTile x y s fun slot => succeed s (tilePacked (Memory.read s.tmap slot)) := rfl

theorem exec_scrGetraw (x y : Operand) (s : State) : exec (.scrGetraw x y) s =
    withTile x y s fun slot => succeed s ((tileToRaw s.cfg (Memory.read s.tmap slot)).setWidth 32) := rfl

theorem exec_scrSetraw (x y w : Operand) (s : State) : exec (.scrSetraw x y w) s =
    withTile x y s fun slot => storeTile slot (tileFromRaw s.cfg w) s := rfl

theorem exec_scrSetchr (x y v : Operand) (s : State) : exec (.scrSetchr x y v) s =
    withTile x y s fun slot => if 1023 < v.toNat then raise .rngScrChar v s
      else storeTile slot { Memory.read s.tmap slot with chr := v.setWidth 10 } s := rfl

theorem exec_scrSetpal (x y v : Operand) (s : State) : exec (.scrSetpal x y v) s =
    withTile x y s fun slot => if 1023 < v.toNat then raise .rngScrPal v s
      else storeTile slot { Memory.read s.tmap slot with pal := v.setWidth 10 } s := rfl

theorem exec_scrSetflip (x y f : Operand) (s : State) : exec (.scrSetflip x y f) s =
    withTile x y s fun slot => if 3 < f.toNat then raise .rngScrFlip f s
      else storeTile slot { Memory.read s.tmap slot with fh := f.getLsbD 0, fv := f.getLsbD 1 } s := rfl

/-- Settles O51: both commands run the same coordinate checks, then each reads the tile in its own form. -/
theorem scrGetAndGetrawReadOneTile : Obligations.ScrGetAndGetrawReadOneTile := by
  unfold Obligations.ScrGetAndGetrawReadOneTile
  intro x y s
  refine ⟨decode_encode (.scrGet x y), decode_encode (.scrGetraw x y), ?_⟩
  rw [exec_scrGet, exec_scrGetraw]
  split_ifs with hx hy
  · exact ⟨withTile_fails_x y s _ hx, withTile_fails_x y s _ hx⟩
  · exact ⟨withTile_fails_y s _ hx hy, withTile_fails_y s _ hx hy⟩
  · rw [← tilePacked_eq_sum, BitVec.ofNat_toNat]
    rw [withTile_of_le s _ hx hy, withTile_of_le s _ hx hy]
    exact ⟨succeed_succeedsWith s _, succeed_succeedsWith s _⟩

/-- Settles O52: the two checks, then the store of the decoded word. -/
theorem scrSetrawWritesOneTile : Obligations.ScrSetrawWritesOneTile := by
  unfold Obligations.ScrSetrawWritesOneTile
  intro x y w s
  refine ⟨decode_encode (.scrSetraw x y w), withTile_or_rest (exec_scrSetraw x y w s) fun hstore => ?_⟩
  rw [hstore]
  exact storeTile_succeeds _ _ s

/-- Settles O53: the three checks, then the store of the slot's tile with a new character. -/
theorem scrSetchrWritesOneField : Obligations.ScrSetchrWritesOneField := by
  unfold Obligations.ScrSetchrWritesOneField
  intro x y v s
  refine ⟨decode_encode (.scrSetchr x y v), withTile_or_rest (exec_scrSetchr x y v s) fun hslot => ?_⟩
  refine failsWith_or_rest hslot fun _ hstore => ?_
  rw [hstore, BitVec.ofNat_toNat]
  exact storeTile_succeeds _ _ s

/-- Settles O54: the three checks, then the store of the slot's tile with a new palette. -/
theorem scrSetpalWritesOneField : Obligations.ScrSetpalWritesOneField := by
  unfold Obligations.ScrSetpalWritesOneField
  intro x y v s
  refine ⟨decode_encode (.scrSetpal x y v), withTile_or_rest (exec_scrSetpal x y v s) fun hslot => ?_⟩
  refine failsWith_or_rest hslot fun _ hstore => ?_
  rw [hstore, BitVec.ofNat_toNat]
  exact storeTile_succeeds _ _ s

/-- Settles O55: the three checks, then the store of the slot's tile with both flags new; an operand in range has no bit
above bit 1. -/
theorem scrSetflipWritesTheFlags : Obligations.ScrSetflipWritesTheFlags := by
  unfold Obligations.ScrSetflipWritesTheFlags
  intro x y f s
  refine ⟨decode_encode (.scrSetflip x y f), withTile_or_rest (exec_scrSetflip x y f s) fun hslot => ?_⟩
  refine failsWith_or_rest hslot fun hrange hstore => ?_
  have hfh : f.getLsbD 0 = decide (f.toNat % 2 = 1) := by rw [getLsbD_eq_decide, pow_zero, Nat.div_one]
  have hfv : f.getLsbD 1 = decide (f.toNat / 2 = 1) := by
    rw [getLsbD_eq_decide, pow_one, Nat.mod_eq_of_lt (by omega)]
  rw [hstore, ← hfh, ← hfv]
  exact storeTile_succeeds _ _ s

end Sys2Proof.Machine

/-! Proofs/StringSlot.lean: the string-slot pipeline, `MEM.DEC` and `MEM.ENC`, and its round trips (45_stringslot.md R220 to
R225). -/

namespace Sys2Proof.Machine

/-- A scan in ascending order finds a first bad index, or every index is good. -/
theorem all_good_or_first_bad (n : Nat) (good : Nat → Prop) :
    (∀ i < n, good i) ∨ ∃ i < n, (∀ j < i, good j) ∧ ¬good i := by
  refine or_iff_not_imp_right.mpr fun hnone i => ?_
  induction i using Nat.strong_induction_on with
  | _ i ih =>
    intro hi
    by_contra hbad
    exact hnone ⟨i, hi, fun j hj => ih j hj (hj.trans hi), hbad⟩

/-- An error leaves a completion code other than 0 in `LASTERR`, since no class has number 0 (60_exceptions.md R260). -/
theorem FailsWith.lasterr_ne_zero {o : Host.Outcome State Fault Refusal} {s t : State} {n : Nat} {k : BitVec 8}
    {info : BitVec 16} (h : FailsWith o s n k info) (hnext : o = .next t) (hn : 0 < n := by decide)
    (hn' : n < 16 := by decide) : t.lasterr ≠ 0 := by
  intro h0
  have hcode : t.lasterr = errorCode n k info := by
    rw [← Host.Outcome.next.inj (h.symm.trans hnext)]
  have hclass := codeClass_errorCode hn' k info
  rw [← hcode, h0] at hclass
  exact absurd hclass (by simpa [codeClass] using hn.ne)

/-! `MEM.DEC`: two checks of lengths, then the scan of the slots (45_stringslot.md R222, R223). -/

/-- `MEM.DEC` after its checks of `PAYLEN` and of the length field, for a string of `count` code units (45_stringslot.md
R223). -/
def memDecScan (s : State) (count : Nat) : Host.Outcome State Fault Refusal :=
  match (List.range strCells).find? (fun i => (memSlotError s count i).isSome) with
  | some i => raise ((memSlotError s count i).getD .encStrNocode) (BitVec.ofNat 16 i) s
  | none =>
    succeed ((s.setStr (Memory.fill strCells (List.range strCells) (memDecodedCell s count) s.str)).setStrLen
      (BitVec.ofNat 16 count)) 0

theorem exec_memDec (s : State) : exec .memDec s =
    if s.payLen.toNat ≠ 516 then raise .fmtPaylen s.payLen s
    else if lengthField s.pay % 2 = 1 ∨ 512 < lengthField s.pay then
      raise .encStrLenfield (BitVec.ofNat 16 (lengthField s.pay)) s
    else memDecScan s (lengthField s.pay / 2) := by
  rw [← memLength_eq_lengthField]
  rfl

theorem memSlotError_isSome_iff (s : State) (count i : Nat) :
    (memSlotError s count i).isSome = true ↔ ¬SlotGood s count i := by
  rw [← (memSlotError_cases s count i).1, Option.isSome_iff_ne_none]

/-- The first bad slot ends the scan with the error of its region (45_stringslot.md R223). -/
theorem memDecScan_fails {s : State} {count i : Nat} (hi : i < 256) (hbefore : ∀ j < i, SlotGood s count j)
    (hbad : ¬SlotGood s count i) :
    FailsWith (memDecScan s count) s 5 (if i < count then 0x72 else 0x73) (BitVec.ofNat 16 i) := by
  have hfind : (List.range strCells).find? (fun i => (memSlotError s count i).isSome) = some i := by
    rw [List.find?_range_eq_some]
    exact ⟨(memSlotError_isSome_iff s count i).mpr hbad, List.mem_range.mpr hi, fun j hj => by
      simpa using (memSlotError_cases s count j).1.mpr (hbefore j hj)⟩
  obtain ⟨cause, herror, hclass, hnumber⟩ := (memSlotError_cases s count i).2 hbad
  simp only [memDecScan, hfind, herror, Option.getD_some]
  exact raise_failsWith_of _ s hclass hnumber

/-- The cell decoded from a good slot inside the length is the byte of the slot's code (45_stringslot.md R223). -/
theorem memDecodedCell_of_lt {s : State} {count i : Nat} (hi : i < count) (hgood : SlotGood s count i) :
    ∃ b : BitVec 8, byteToCode s.cfg b = field16 s.pay (2 * i) ∧ (memDecodedCell s count i).toNat = b.toNat := by
  rw [SlotGood, if_pos hi] at hgood
  cases hbyte : codeToByte s.cfg (field16 s.pay (2 * i)) with
  | none => exact absurd hgood (codeToByte_eq_none.mp hbyte)
  | some b =>
    refine ⟨b, byteToCode_of_codeToByte hbyte, ?_⟩
    rw [memDecodedCell, if_pos hi, payWord_eq_field16, hbyte, Option.getD_some, BitVec.toNat_setWidth]
    omega

/-- With no bad slot the scan ends with the writes (45_stringslot.md R223). -/
theorem memDecScan_succeeds {s : State} {count : Nat} (hcount : count ≤ 256) (hgood : ∀ i < 256, SlotGood s count i) :
    ∃ m, SucceedsWith (memDecScan s count) { s with str := m, strLen := BitVec.ofNat 16 count } 0 ∧
      (∀ i < count, ∃ b : BitVec 8,
        byteToCode s.cfg b = field16 s.pay (2 * i) ∧ (Memory.read m i).toNat = b.toNat) ∧
      ∀ i < 256, count ≤ i → Memory.read m i = 0 := by
  have hfind : (List.range strCells).find? (fun i => (memSlotError s count i).isSome) = none := by
    rw [List.find?_range_eq_none]
    exact fun i hi => by simpa using (memSlotError_cases s count i).1.mpr (hgood i hi)
  have hread : ∀ i < 256, Memory.read (Memory.fill strCells (List.range strCells) (memDecodedCell s count) s.str) i =
      memDecodedCell s count i := fun i hi => by rw [read_fill_range]; exact if_pos hi
  refine ⟨Memory.fill strCells (List.range strCells) (memDecodedCell s count) s.str, ?_, fun i hi => ?_,
    fun i hi hcell => ?_⟩
  · rw [memDecScan, hfind]
    exact succeed_succeedsWith _ _
  · rw [hread i (by omega)]
    exact memDecodedCell_of_lt hi (hgood i (by omega))
  · rw [hread i hi, memDecodedCell, if_neg (by omega)]

/-- Settles O57: the two checks of lengths, then the two ways that the scan ends. -/
theorem memDecDecodesOrReportsTheFirstFailure : Obligations.MemDecDecodesOrReportsTheFirstFailure := by
  unfold Obligations.MemDecDecodesOrReportsTheFirstFailure
  intro s
  refine ⟨decode_encode .memDec, failsWith_or_rest (exec_memDec s) fun _ hrest =>
    failsWith_or_rest hrest fun hlength hscan => ?_⟩
  rw [hscan]
  exact ⟨fun i => memDecScan_fails, memDecScan_succeeds (by omega)⟩

/-! `MEM.ENC`: the check of the length, then the scan of the cells (45_stringslot.md R224). -/

/-- `MEM.ENC` after its check of `STRLEN` (45_stringslot.md R224). -/
def memEncScan (s : State) : Host.Outcome State Fault Refusal :=
  match (List.range s.strLen.toNat).find? (fun i => decide ((Memory.read s.str i).toNat > 255)) with
  | some i => raise .encStrChar (BitVec.ofNat 16 i) s
  | none => storePayload memSize (List.range memSize) (memPayloadByte s) s

theorem exec_memEnc (s : State) : exec .memEnc s =
    if 256 < s.strLen.toNat then raise .encStrToolong s.strLen s else memEncScan s := rfl

/-- The first cell above 255 ends the scan (45_stringslot.md R224). -/
theorem memEncScan_fails {s : State} {i : Nat} (hi : i < s.strLen.toNat)
    (hbefore : ∀ j < i, (Memory.read s.str j).toNat ≤ 255) (hbad : 255 < (Memory.read s.str i).toNat) :
    FailsWith (memEncScan s) s 5 0x71 (BitVec.ofNat 16 i) := by
  have hfind : (List.range s.strLen.toNat).find? (fun i => decide ((Memory.read s.str i).toNat > 255)) = some i := by
    rw [List.find?_range_eq_some]
    exact ⟨decide_eq_true hbad, List.mem_range.mpr hi, fun j hj => by simpa using hbefore j hj⟩
  rw [memEncScan, hfind]
  exact raise_failsWith_of _ s rfl rfl

/-- The two payload bytes of a slot are its code value, low byte first (45_stringslot.md R220). -/
theorem memPayloadByte_slot (s : State) {i : Nat} (hi : i < 256) :
    memPayloadByte s (2 * i) = (memCode s i).extractLsb' 0 8 ∧
      memPayloadByte s (2 * i + 1) = (memCode s i).extractLsb' 8 8 := by
  constructor
  · rw [memPayloadByte, if_pos (by omega), Nat.mul_div_cancel_left i two_pos, Nat.mul_mod_right, leByte_low]
  · rw [memPayloadByte, if_pos (by omega), Nat.mul_add_div two_pos, Nat.mul_add_mod]
    exact leByte_high _

/-- A byte of the length field (45_stringslot.md R220, R224). -/
theorem toNat_memPayloadByte_length (s : State) (k : Nat) :
    (memPayloadByte s (512 + k)).toNat = 2 * s.strLen.toNat / 256 ^ k % 256 := by
  rw [memPayloadByte, if_neg (by omega), Nat.add_sub_cancel_left, leByte, BitVec.toNat_ofNat]

/-- A payload with the bytes of `MEM.ENC` below 516 holds the codes and the length (45_stringslot.md R224). -/
theorem fields_of_memPayloadByte {s : State} {m : Memory (BitVec 8)}
    (hread : ∀ a < 516, Memory.read m a = memPayloadByte s a) :
    (∀ i < 256, field16 m (2 * i) = memCode s i) ∧ lengthField m = 2 * s.strLen.toNat := by
  refine ⟨fun i hi => ?_, ?_⟩
  · obtain ⟨hlow, hhigh⟩ := memPayloadByte_slot s hi
    exact field16_eq ((hread _ (by omega)).trans hlow) ((hread _ (by omega)).trans hhigh)
  · have hbyte (k : Nat) (hk : k < 4) : (Memory.read m (512 + k)).toNat = 2 * s.strLen.toNat / 256 ^ k % 256 := by
      rw [hread _ (by omega), toNat_memPayloadByte_length]
    have h0 := hbyte 0 (by decide)
    have h1 := hbyte 1 (by decide)
    have h2 := hbyte 2 (by decide)
    have h3 := hbyte 3 (by decide)
    simp only [Nat.reduceAdd, Nat.reducePow] at h0 h1 h2 h3
    rw [lengthField, h0, h1, h2, h3]
    omega

/-- With no cell above 255 the scan ends with the writes (45_stringslot.md R224). -/
theorem memEncScan_succeeds {s : State} (hlength : s.strLen.toNat ≤ 256)
    (hgood : ∀ i < s.strLen.toNat, (Memory.read s.str i).toNat ≤ 255) :
    ∃ m, SucceedsWith (memEncScan s) { s with pay := m, payLen := 516 } 0 ∧
      (∀ i < s.strLen.toNat,
        field16 m (2 * i) = byteToCode s.cfg (BitVec.ofNat 8 (Memory.read s.str i).toNat)) ∧
      (∀ i < 256, s.strLen.toNat ≤ i → field16 m (2 * i) = 0) ∧
      lengthField m = 2 * s.strLen.toNat ∧
      ∀ a, 516 ≤ a → Memory.read m a = Memory.read s.pay a := by
  have hfind : (List.range s.strLen.toNat).find? (fun i => decide ((Memory.read s.str i).toNat > 255)) = none := by
    rw [List.find?_range_eq_none]
    exact fun i hi => by simpa using hgood i hi
  obtain ⟨hcode, hfield⟩ := fields_of_memPayloadByte (s := s)
    (m := Memory.fill memSize (List.range memSize) (memPayloadByte s) s.pay)
    fun a ha => by rw [read_fill_range]; exact if_pos ha
  refine ⟨_, ?_, fun i hi => ?_, fun i hi hcell => ?_, hfield, fun a ha => ?_⟩
  · rw [memEncScan, hfind]
    exact storePayload_succeeds _ _ _ s
  · rw [hcode i (by omega), memCode, if_pos hi, BitVec.ofNat_toNat]
  · rw [hcode i hi, memCode, if_neg (by omega)]
  · rw [read_fill_range]
    exact if_neg (Nat.not_lt.mpr ha)

/-- Settles O58: the check of the length, then the two ways that the scan ends. -/
theorem memEncEncodesOrReportsTheFirstFailure : Obligations.MemEncEncodesOrReportsTheFirstFailure := by
  unfold Obligations.MemEncEncodesOrReportsTheFirstFailure
  intro s
  refine ⟨decode_encode .memEnc, failsWith_or_rest (exec_memEnc s) fun hlength hscan => ?_⟩
  rw [hscan]
  exact ⟨fun i => memEncScan_fails, memEncScan_succeeds (by omega)⟩

/-! The round trips (45_stringslot.md R225): when each command succeeds, and what it then leaves. -/

/-- The payload passes every check of `MEM.DEC` (45_stringslot.md R222, R223). -/
structure State.DecodesString (s : State) : Prop where
  payLen : s.payLen.toNat = 516
  lengthEven : lengthField s.pay % 2 = 0
  lengthLe : lengthField s.pay ≤ 512
  slots : ∀ i < 256, SlotGood s (lengthField s.pay / 2) i

/-- The string passes every check of `MEM.ENC` (45_stringslot.md R224). -/
structure State.EncodesString (s : State) : Prop where
  length : s.strLen.toNat ≤ 256
  cells : ∀ i < s.strLen.toNat, (Memory.read s.str i).toNat ≤ 255

theorem decodesString_of_memDec {s t : State} (hdec : exec .memDec s = .next t) (h0 : t.lasterr = 0) :
    s.DecodesString := by
  obtain ⟨-, h⟩ := memDecDecodesOrReportsTheFirstFailure s
  split_ifs at h with hlen hlength
  · exact absurd h0 (h.lasterr_ne_zero hdec)
  · exact absurd h0 (h.lasterr_ne_zero hdec)
  · obtain ⟨hfails, -⟩ := h
    obtain hgood | ⟨i, hi, hbefore, hbad⟩ := all_good_or_first_bad 256 (SlotGood s (lengthField s.pay / 2))
    · exact ⟨not_not.mp hlen, by omega, by omega, hgood⟩
    · exact absurd h0 ((hfails i hi hbefore hbad).lasterr_ne_zero hdec)

theorem encodesString_of_memEnc {s t : State} (henc : exec .memEnc s = .next t) (h0 : t.lasterr = 0) :
    s.EncodesString := by
  obtain ⟨-, h⟩ := memEncEncodesOrReportsTheFirstFailure s
  split_ifs at h with hlength
  · exact absurd h0 (h.lasterr_ne_zero henc)
  · obtain ⟨hfails, -⟩ := h
    obtain hgood | ⟨i, hi, hbefore, hbad⟩ :=
      all_good_or_first_bad s.strLen.toNat fun i => (Memory.read s.str i).toNat ≤ 255
    · exact ⟨Nat.not_lt.mp hlength, hgood⟩
    · exact absurd h0 ((hfails i hi hbefore (Nat.not_le.mp hbad)).lasterr_ne_zero henc)

theorem exec_memDec_of_decodesString {s : State} (h : s.DecodesString) :
    exec .memDec s = memDecScan s (lengthField s.pay / 2) := by
  obtain ⟨hlen, heven, hle, -⟩ := h
  rw [exec_memDec, if_neg (not_not.mpr hlen), if_neg (by omega)]

theorem exec_memEnc_of_encodesString {s : State} (h : s.EncodesString) : exec .memEnc s = memEncScan s := by
  rw [exec_memEnc, if_neg (Nat.not_lt.mpr h.length)]

/-- Two length fields are equal only if their four bytes are. -/
theorem read_eq_of_lengthField_eq {m m' : Memory (BitVec 8)} (h : lengthField m = lengthField m') {a : Nat}
    (ha : 512 ≤ a) (ha' : a < 516) : Memory.read m a = Memory.read m' a := by
  have hbyte (k : Nat) : (Memory.read m k).toNat < 256 ∧ (Memory.read m' k).toNat < 256 :=
    ⟨(Memory.read m k).isLt, (Memory.read m' k).isLt⟩
  have h0 := hbyte 512
  have h1 := hbyte 513
  have h2 := hbyte 514
  have h3 := hbyte 515
  rw [lengthField, lengthField] at h
  apply BitVec.eq_of_toNat_eq
  interval_cases a <;> omega

/-- Two payloads are equal if their 256 code values, their length fields and the bytes beyond them are. -/
theorem read_eq_of_stringFields_eq {m m' : Memory (BitVec 8)}
    (hcode : ∀ i < 256, field16 m (2 * i) = field16 m' (2 * i)) (hlength : lengthField m = lengthField m')
    (hrest : ∀ a, 516 ≤ a → Memory.read m a = Memory.read m' a) (a : Nat) : Memory.read m a = Memory.read m' a := by
  refine read_eq_of_field16_eq hcode (fun a ha => ?_) a
  by_cases ha' : a < 516
  · exact read_eq_of_lengthField_eq hlength ha ha'
  · exact hrest a (Nat.not_lt.mp ha')

/-- What a `MEM.DEC` that succeeds began with, and what it leaves for a following command (45_stringslot.md R222, R223). -/
theorem memDec_eq_next {s t : State} (hdec : exec .memDec s = .next t) (h0 : t.lasterr = 0) :
    s.DecodesString ∧ t.cfg = s.cfg ∧ t.pay = s.pay ∧ t.strLen.toNat = lengthField s.pay / 2 ∧
      ∀ i < lengthField s.pay / 2, ∃ b : BitVec 8,
        byteToCode s.cfg b = field16 s.pay (2 * i) ∧ (Memory.read t.str i).toNat = b.toNat := by
  have hs := decodesString_of_memDec hdec h0
  have hle := hs.lengthLe
  rw [exec_memDec_of_decodesString hs] at hdec
  obtain ⟨str, hnext, hcells, -⟩ := memDecScan_succeeds (by omega) hs.slots
  obtain rfl := Host.Outcome.next.inj (hnext.symm.trans hdec)
  refine ⟨hs, rfl, rfl, ?_, hcells⟩
  show (BitVec.ofNat 16 (lengthField s.pay / 2)).toNat = _
  rw [BitVec.toNat_ofNat]
  omega

/-- What a `MEM.ENC` that succeeds began with, and what it leaves for a following command (45_stringslot.md R224). -/
theorem memEnc_eq_next {s t : State} (henc : exec .memEnc s = .next t) (h0 : t.lasterr = 0) :
    s.EncodesString ∧ t.cfg = s.cfg ∧ t.payLen = 516 ∧ lengthField t.pay = 2 * s.strLen.toNat ∧
      (∀ i < s.strLen.toNat,
        field16 t.pay (2 * i) = byteToCode s.cfg (BitVec.ofNat 8 (Memory.read s.str i).toNat)) ∧
      ∀ i < 256, s.strLen.toNat ≤ i → field16 t.pay (2 * i) = 0 := by
  have hs := encodesString_of_memEnc henc h0
  rw [exec_memEnc_of_encodesString hs] at henc
  obtain ⟨pay, hnext, hcodes, hzeros, hlength, -⟩ := memEncScan_succeeds hs.length hs.cells
  obtain rfl := Host.Outcome.next.inj (hnext.symm.trans henc)
  exact ⟨hs, rfl, rfl, hlength, hcodes, hzeros⟩

/-- 45_stringslot.md R225 (a), in any configuration: a cell inside the length is a byte of its slot's code, so it encodes
to that code; beyond the length the slots were 0 already. -/
theorem memEnc_restores_payload {s t : State} (hdec : exec .memDec s = .next t) (h0 : t.lasterr = 0) :
    ∃ u : State, exec .memEnc t = .next u ∧ u.lasterr = 0 ∧ ∀ a, Memory.read u.pay a = Memory.read s.pay a := by
  obtain ⟨⟨-, heven, hle, hslots⟩, hcfg, hpay, hstrLen, hcells⟩ := memDec_eq_next hdec h0
  have ht : t.EncodesString := by
    refine ⟨by omega, fun i hi => ?_⟩
    obtain ⟨b, -, hcell⟩ := hcells i (by omega)
    have := b.isLt
    omega
  obtain ⟨pay, henc, hcodes, hzeros, hlength, hrest⟩ := memEncScan_succeeds ht.length ht.cells
  have hfield : lengthField pay = lengthField s.pay := by omega
  rw [exec_memEnc_of_encodesString ht]
  rw [hpay] at hrest
  refine ⟨_, henc, rfl, read_eq_of_stringFields_eq (fun i hi => ?_) hfield hrest⟩
  have hslot := hslots i hi
  by_cases hin : i < lengthField s.pay / 2
  · obtain ⟨b, hcode, hcell⟩ := hcells i hin
    calc field16 pay (2 * i) = byteToCode t.cfg (BitVec.ofNat 8 (Memory.read t.str i).toNat) := hcodes i (by omega)
      _ = byteToCode s.cfg b := by rw [hcfg, hcell, BitVec.ofNat_toNat, BitVec.setWidth_eq]
      _ = field16 s.pay (2 * i) := hcode
  · rw [SlotGood, if_neg hin] at hslot
    rw [hzeros i hi (by omega), hslot]

/-- 45_stringslot.md R225 (b): the byte that `MEM.DEC` finds for a slot has the code of the cell's byte, so it is that byte
where the table is injective. -/
theorem memDec_restores_string {s t : State} (hwf : s.cfg.wf = true) (henc : exec .memEnc s = .next t)
    (h0 : t.lasterr = 0) :
    ∃ u : State, exec .memDec t = .next u ∧ u.lasterr = 0 ∧ u.strLen = s.strLen ∧
      (∀ i < s.strLen.toNat, Memory.read u.str i = Memory.read s.str i) ∧
      ∀ i < 256, s.strLen.toNat ≤ i → Memory.read u.str i = 0 := by
  obtain ⟨⟨hlength, hchars⟩, hcfg, hpayLen, hfield, hcodes, hzeros⟩ := memEnc_eq_next henc h0
  have hcount : lengthField t.pay / 2 = s.strLen.toNat := by omega
  have hslots : ∀ i < 256, SlotGood t s.strLen.toNat i := fun i hi => by
    rw [SlotGood]
    split
    · next hin => exact ⟨_, by rw [hcfg, hcodes i hin]⟩
    · next hin => exact hzeros i hi (Nat.not_lt.mp hin)
  have ht : t.DecodesString := ⟨by rw [hpayLen]; rfl, by omega, by omega, hcount ▸ hslots⟩
  obtain ⟨str, hdec, hcells, hrest⟩ := memDecScan_succeeds hlength hslots
  rw [exec_memDec_of_decodesString ht, hcount]
  refine ⟨_, hdec, rfl, by simp, fun i hi => ?_, hrest⟩
  obtain ⟨b, hcode, hcell⟩ := hcells i hi
  have hb : b = BitVec.ofNat 8 (Memory.read s.str i).toNat :=
    byteToCode_injective hwf (by rw [← hcfg, hcode, hcodes i hi, hcfg])
  have hchar := hchars i hi
  apply BitVec.eq_of_toNat_eq
  rw [hcell, hb, BitVec.toNat_ofNat]
  omega

/-- Settles O59: each command restores what the other one read. -/
theorem stringSlotRoundTrips : Obligations.StringSlotRoundTrips := by
  unfold Obligations.StringSlotRoundTrips
  exact ⟨fun _ _ _ => memEnc_restores_payload, fun _ _ => memDec_restores_string⟩

end Sys2Proof.Machine

/-! Proofs/SystemCommands.lean: the `SYS` commands (46_port_system.md R244 to R246). -/

namespace Sys2Proof.Machine

/-- Settles O18: `STICKY` is cleared, then the command succeeds, and its completion update writes 0 to `LASTERR`. -/
theorem sysClrerrClearsSticky : Obligations.SysClrerrClearsSticky := by
  unfold Obligations.SysClrerrClearsSticky
  intro s
  exact ⟨decode_encode .sysClrerr, succeed_succeedsWith (s.setSticky 0) 0⟩

/-- `SYS.RDCSR` of a number that names a register (46_port_system.md R245). -/
theorem sysRdcsr_succeeds {n : Operand} {s : State} {v : BitVec 32} (h : readCsr? n.toNat s = some v) :
    SucceedsWith (exec (.sysRdcsr n) s) s v := by
  rw [exec, execSysRdcsr, h]
  exact succeed_succeedsWith s v

/-- `SYS.RDCSR` of a number without a register (46_port_system.md R245). -/
theorem sysRdcsr_fails {n : Operand} (s : State) (h : 3 < n.toNat) : FailsWith (exec (.sysRdcsr n) s) s 6 0xF2 n := by
  rw [exec, execSysRdcsr, readCsr?_eq_none.mpr h]
  exact raise_failsWith .illCsr n s

/-- Settles O19: the four registers by number, and every number above them. -/
theorem sysRdcsrReadsTheRegisterBefore : Obligations.SysRdcsrReadsTheRegisterBefore := by
  unfold Obligations.SysRdcsrReadsTheRegisterBefore
  intro n s
  simp only [BitVec.ofNat_toNat]
  refine ⟨decode_encode (.sysRdcsr n), ?lasterr, ?sticky, ?payLen, ?strLen, sysRdcsr_fails s⟩
  all_goals
    rintro rfl
    exact sysRdcsr_succeeds rfl

/-- `SYS.WRCSR` of a number other than the two lengths' (46_port_system.md R246). -/
theorem sysWrcsr_fails {n : Operand} (v : Operand) (s : State) (h2 : n ≠ 2) (h3 : n ≠ 3) :
    FailsWith (exec (.sysWrcsr n v) s) s 6 0xF2 n := by
  rw [exec, execSysWrcsr, if_neg h2, if_neg h3]
  exact raise_failsWith .illCsr n s

/-- Settles O20: each length's number selects its own write, and no other number selects one. -/
theorem sysWrcsrWritesOnlyTheLengths : Obligations.SysWrcsrWritesOnlyTheLengths := by
  unfold Obligations.SysWrcsrWritesOnlyTheLengths
  intro n v s
  refine ⟨decode_encode (.sysWrcsr n v), ?payLen, ?strLen, sysWrcsr_fails v s⟩
  case payLen =>
    rintro rfl
    exact succeed_succeedsWith (s.setPayLen v) 0
  case strLen =>
    rintro rfl
    exact succeed_succeedsWith (s.setStrLen v) 0

end Sys2Proof.Machine

/-! Proofs/HostPort.lean: the loads and stores of the host port (46_port_system.md R240 to R243). -/

namespace Sys2Proof.Machine

/-- A command that begins with an operand check, when the check refuses. -/
theorem failsWith_of_check {o rest : Host.Outcome State Fault Refusal} {b : Prop} [Decidable b] {c : Cause}
    {info : BitVec 16} {s : State} {n : Nat} {k : BitVec 8} (ho : o = if b then raise c info s else rest) (hb : b)
    (hn : c.errorClass.number = n := by rfl) (hk : c.number = k := by rfl) : FailsWith o s n k info := by
  rw [ho, if_pos hb]
  exact raise_failsWith_of info s hn hk

/-! The four commands when the address or the index names a cell. -/

theorem exec_payRd_of_le {a : Operand} (s : State) (ha : a.toNat ≤ 49151) :
    exec (.payRd a) s = succeed s ((Memory.read s.pay a.toNat).setWidth 32) := if_neg (Nat.not_lt.mpr ha)

theorem exec_payWr_of_le {a : Operand} (b : Operand) (s : State) (ha : a.toNat ≤ 49151) :
    exec (.payWr a b) s = if 255 < b.toNat then raise .rngPayData b s
      else succeed (s.setPay (Memory.write s.pay a.toNat (b.setWidth 8))) 0 := if_neg (Nat.not_lt.mpr ha)

theorem exec_strRd_of_le {i : Operand} (s : State) (hi : i.toNat ≤ 255) :
    exec (.strRd i) s = succeed s ((Memory.read s.str i.toNat).setWidth 32) := if_neg (Nat.not_lt.mpr hi)

theorem exec_strWr_of_le {i : Operand} (c : Operand) (s : State) (hi : i.toNat ≤ 255) :
    exec (.strWr i c) s = succeed (s.setStr (Memory.write s.str i.toNat c)) 0 := if_neg (Nat.not_lt.mpr hi)

/-- Settles O21: the address check, then the read. -/
theorem payRdReadsOneByte : Obligations.PayRdReadsOneByte := by
  unfold Obligations.PayRdReadsOneByte
  intro a s
  refine ⟨decode_encode (.payRd a), fun ha => ?_, failsWith_of_check rfl⟩
  rw [exec_payRd_of_le s ha, BitVec.ofNat_toNat]
  exact succeed_succeedsWith s _

/-- `PAY.WR` of an address and a value that are both in range; the value loses nothing when it is cut to 8 bits
(46_port_system.md R241). -/
theorem payWr_succeeds {a b : Operand} (s : State) (ha : a.toNat ≤ 49151) (hb : b.toNat ≤ 255) :
    ∃ m, SucceedsWith (exec (.payWr a b) s) { s with pay := m } 0 ∧
      (Memory.read m a.toNat).toNat = b.toNat ∧ ∀ k, k ≠ a.toNat → Memory.read m k = Memory.read s.pay k := by
  rw [exec_payWr_of_le b s ha, if_neg (Nat.not_lt.mpr hb)]
  refine ⟨_, succeed_succeedsWith (s.setPay _) 0, ?_, fun _ hk => Memory.read_write_other _ _ hk⟩
  rw [Memory.read_write_same, BitVec.toNat_setWidth, Nat.mod_eq_of_lt (by omega)]

/-- Settles O22: the address check, then the value check, then the write. -/
theorem payWrWritesOneByte : Obligations.PayWrWritesOneByte := by
  unfold Obligations.PayWrWritesOneByte
  intro a b s
  exact ⟨decode_encode (.payWr a b), payWr_succeeds s, failsWith_of_check rfl,
    fun ha => failsWith_of_check (exec_payWr_of_le b s ha)⟩

/-- Settles O23: both commands check the index; then one reads the cell and the other replaces it. -/
theorem strRdAndStrWrAccessOneCell : Obligations.StrRdAndStrWrAccessOneCell := by
  unfold Obligations.StrRdAndStrWrAccessOneCell
  intro i c s
  refine ⟨decode_encode (.strRd i), decode_encode (.strWr i c), fun hi => ?_,
    fun hi => ⟨failsWith_of_check rfl hi, failsWith_of_check rfl hi⟩⟩
  rw [exec_strRd_of_le s hi, exec_strWr_of_le c s hi, BitVec.ofNat_toNat]
  exact ⟨succeed_succeedsWith s _, _, succeed_succeedsWith (s.setStr _) 0, Memory.read_write_same _ _ _,
    fun _ hk => Memory.read_write_other _ _ hk⟩

end Sys2Proof.Machine

/-! Proofs/Run.lean: a finite list of the host's inputs runs to its end (70_reset_and_hazards.md R291, R297, R299). -/

namespace Sys2Proof.Machine

/-- A step that takes a command word off the port, legal or not, ends one command from the state with the word taken; a
success leaves `STICKY` or, for `SYS.CLRERR`, clears it (60_exceptions.md R270). -/
theorem step_command_ends {s : State} {w : CommandWord} {rest : List HostInput} (hport : s.port = .command w :: rest) :
    EndsFrom (s.setPort rest) (fun t => t.sticky = s.sticky ∨ t.sticky = 0) (step s) := by
  cases hd : decode w with
  | ok i =>
    rw [step_command hport hd]
    refine (exec_ends i (s.setPort rest)).mono fun t ht => ?_
    split at ht
    · exact .inr ht
    · exact .inl ht
  | error e =>
    rw [step_illegal hport hd]
    exact raiseIllegal_ends e (s.setPort rest)

/-- A step takes the next input whole, and adds one response for a command and none for a reset. -/
theorem step_takes_input {s : State} {input : HostInput} {rest : List HostInput} (hport : s.port = input :: rest) :
    ∃ (t : State) (new : List ResponseWord), step s = .next t ∧ t.port = rest ∧
      t.responses = s.responses ++ new ∧ new.length = if input.isCommand then 1 else 0 := by
  cases input with
  | command w =>
    obtain ⟨t, v, hnext, hresponses, -, hrest⟩ := (step_command_ends hport).next
    exact ⟨t, [responseWord t.lasterr v], hnext, hrest, hresponses, rfl⟩
  | reset d => exact ⟨_, [], step_reset hport, rfl, (List.append_nil _).symm, rfl⟩
  | resetDuring w d => exact ⟨_, [], step_resetDuring hport, rfl, (List.append_nil _).symm, rfl⟩

theorem run_succ_of_step {M : Host.Core} {s t : M.State} (h : M.step s = .next t) (k : Nat) :
    M.run (k + 1) s = M.run k t := by
  rw [Host.Core.run, h]

/-- As many steps as there are inputs take every input, in order: by induction on them, each step taking the first. -/
theorem run_takes_inputs (inputs : List HostInput) {s : State} (hport : s.port = inputs) :
    ∃ (t : State) (new : List ResponseWord), Host.Core.run core inputs.length s = .next t ∧ t.port = [] ∧
      t.responses = s.responses ++ new ∧ new.length = (inputs.filter HostInput.isCommand).length := by
  induction inputs generalizing s with
  | nil => exact ⟨s, [], rfl, hport, (List.append_nil _).symm, rfl⟩
  | cons input rest ih =>
    obtain ⟨u, first, hstep, hrest, hfirst, hfirstLength⟩ := step_takes_input hport
    obtain ⟨t, later, hrun, hempty, hlater, hlaterLength⟩ := ih hrest
    have hlength : (first ++ later).length = ((input :: rest).filter HostInput.isCommand).length := by
      rw [List.length_append, hfirstLength, hlaterLength, List.filter_cons]
      split
      · rw [List.length_cons, Nat.add_comm]
      · rw [Nat.zero_add]
    have hresponses : t.responses = s.responses ++ (first ++ later) := by rw [hlater, hfirst, List.append_assoc]
    have hall := (run_succ_of_step (M := core) hstep rest.length).trans hrun
    exact ⟨t, first ++ later, hall, hempty, hresponses, hlength⟩

/-- Settles O10: the inputs on the port run to their end. -/
theorem everyRunEndsWithOneResponsePerCommand : Obligations.EveryRunEndsWithOneResponsePerCommand := by
  unfold Obligations.EveryRunEndsWithOneResponsePerCommand
  intro s
  obtain ⟨t, new, hrun, hempty, hresponses, hlength⟩ := run_takes_inputs s.port rfl
  exact ⟨t, hrun, hempty, new, hresponses, hlength⟩

end Sys2Proof.Machine

/-! Proofs/ErrorClasses.lean: no step raises an error of class 3 or 4 (60_exceptions.md R260). -/

namespace Sys2Proof.Machine

/-- `LASTERR` holds success or a class that the RTB raises, and `STICKY` has neither reserved class's bit
(60_exceptions.md R260). -/
def State.NoReservedClass (s : State) : Prop := codeClass s.lasterr ∈ [0, 1, 2, 5, 6] ∧ s.sticky &&& 0x18#32 = 0

/-- The `STICKY` bit of a cause is that of one of the four classes the RTB raises. -/
theorem stickyBit_not_reserved_class (c : Cause) : stickyBit c &&& 0x18#32 = 0 := by
  cases c <;> decide

theorem or_stickyBit_not_reserved_class {x : BitVec 32} (hx : x &&& 0x18#32 = 0) (c : Cause) :
    (x ||| stickyBit c) &&& 0x18#32 = 0 := by
  rw [BitVec.and_or_distrib_right, hx, stickyBit_not_reserved_class, BitVec.or_self]

/-- A command writes `LASTERR` anew, so that only the `STICKY` bits before it matter: an error adds the bit of its own
class, and a success from a `STICKY` without the two bits keeps it so. -/
theorem EndsFrom.noReservedClass {s t : State} {P : State → Prop} (h : EndsFrom s P (.next t))
    (hs : s.sticky &&& 0x18#32 = 0) (hP : ∀ u, P u → u.sticky &&& 0x18#32 = 0) : t.NoReservedClass := by
  rcases h with ⟨c, info, hraise⟩ | ⟨u, v, -, hu, hsucceed⟩
  · rw [raise_eq_next hraise.symm]
    exact ⟨List.mem_cons_of_mem 0 (codeClass_failureCode_mem c info), or_stickyBit_not_reserved_class hs c⟩
  · rw [succeed_eq_next hsucceed.symm]
    exact ⟨List.mem_cons_self, hP u hu⟩

/-- A step that ends a command brings in no reserved class. -/
theorem noReservedClass_of_step_command {s t : State} {w : CommandWord} {rest : List HostInput}
    (hport : s.port = .command w :: rest) (hs : s.sticky &&& 0x18#32 = 0) (hstep : step s = .next t) :
    t.NoReservedClass := by
  have hends := step_command_ends hport
  rw [hstep] at hends
  refine hends.noReservedClass hs fun u hu => ?_
  rcases hu with hkept | hcleared
  · rw [hkept, hs]
  · rw [hcleared]
    rfl

theorem afterReset_noReservedClass (s : State) (d : BufferContents) : (s.afterReset d).NoReservedClass :=
  ⟨List.mem_cons_self, BitVec.zero_and⟩

/-- Settles O13: an idle step changes nothing, a command ends in one of the four classes or a success, and a reset
clears both registers. -/
theorem reservedErrorClassesAreNeverRaised : Obligations.ReservedErrorClassesAreNeverRaised := by
  unfold Obligations.ReservedErrorClassesAreNeverRaised
  intro s t hlasterr hsticky hstep
  rcases step_cases hstep with ⟨-, rfl⟩ | ⟨w, rest, i, hport, -, -⟩ | ⟨w, rest, e, hport, -, -⟩ |
    ⟨d, rest, -, rfl⟩
  · exact ⟨hlasterr, hsticky⟩
  · exact noReservedClass_of_step_command hport hsticky hstep
  · exact noReservedClass_of_step_command hport hsticky hstep
  · exact afterReset_noReservedClass (s.setPort rest) d

end Sys2Proof.Machine
